-- ==== Sys2Proof/Word.lean ====
section
/-! DEFINITION. The words of the machine and the four-position tuple: plain types, no behaviour. -/

namespace Sys2Proof

/-- An 8-bit register or operand field. -/
abbrev Byte := BitVec 8

/-- A 16-bit register or operand field. -/
abbrev Half := BitVec 16

/-- The 32-bit result register's type (R70). -/
abbrev Result := BitVec 32

/-- A 64-bit command word (R131), also the type of FAULT_INFO (R90). -/
abbrev Word := BitVec 64

/-- One value for each of the four display positions, `q0` the least significant (R36, R39, R131). -/
structure Quad (α : Type) where
  q0 : α
  q1 : α
  q2 : α
  q3 : α
  deriving DecidableEq, Repr, Inhabited

/-- The four values, position 0 first. -/
def Quad.toList {α : Type} (q : Quad α) : List α := [q.q0, q.q1, q.q2, q.q3]

end Sys2Proof
end

