-- ==== Sys2Proof/Config.lean ====
section
/-! DEFINITION. The parameters of R7 as one plain record, the values the spec leaves OPEN and the draws of the
environment as constants without a body, and the record of defaults that State.reset uses. -/

namespace Sys2Proof

/-- The agents that have steps (R6); ENV has none, it answers samples and bus transfers. -/
inductive Agent where
  | timer
  | foreground
  | host
  deriving DecidableEq, Repr, Inhabited

/-- The input lines (R57, R68, R83). No rule samples `vWarn` (R357). -/
inductive Line where
  | irInA
  | irInB
  | rfCarrier
  | rfAck
  | button
  | vWarn
  | vCutoff
  deriving DecidableEq, Repr, Inhabited

/-- One DisplaySettings slot (R39); `alwaysOn` is a mask of FRAME_BITS bits. -/
structure Settings where
  suppress : Quad Bool
  dp       : Quad Bool
  alwaysOn : Nat
  deriving DecidableEq, Repr, Inhabited

/-- The parameters of R7, under the spec's names. They are fixed for a run (R450): no operation writes them.
NUM_COUNTERS is not here: it is the size of the counter bank (DESIGN CHOICE, log 5). Widths of 8 and 16 bits carry
the bounds 255 and 65535 of R8; `xtalFreq` is positive by type (R301; DEDUCED, log 16).
State holds the record (DESIGN CHOICE, log 2). -/
structure Config where
  /-- CNT_WIDTH -/
  cntWidth        : Nat
  /-- TICK_PERIOD, which no rule reads (R464; DEDUCED, log 27) -/
  tickPeriod      : Nat
  t1ms            : Nat
  t10ms           : Nat
  t50ms           : Nat
  /-- DISP_BIT_THRESH -/
  dispBitThresh   : Nat
  /-- FRAME_BITS -/
  frameBits       : Nat
  /-- SEG_TABLE[p][v], the content of SEGROM (R101): one row of ten masks a position -/
  segTable        : Quad (Vector Nat 10)
  /-- DP_MASK[p] -/
  dpMask          : Quad Nat
  /-- SETTINGS[0]: there is at least one slot (R8) -/
  slot0           : Settings
  /-- SETTINGS[1..NUM_SETTINGS-1] -/
  moreSlots       : List Settings
  /-- NUM_CHANNELS, 1 or 2 -/
  numChannels     : Nat
  /-- TX_ENABLE_A -/
  txEnableA       : Bool
  tAssert         : Nat
  tPulse          : Nat
  tGuard          : Nat
  tTimeout        : Nat
  /-- BROKEN_CEIL -/
  brokenCeil      : Byte
  /-- BROKEN_THRESH_INIT -/
  brokenThreshInit : Byte
  /-- IR_DELAY_INIT -/
  irDelayInit     : Byte
  /-- SEND_ON_PEER_LOST -/
  sendOnPeerLost  : Bool
  /-- RF_ENABLE -/
  rfEnable        : Bool
  /-- RETRY_MAX -/
  retryMax        : Byte
  /-- RF_ACK_WINDOW -/
  rfAckWindow     : Nat
  /-- RF_TIMEOUT_50MS; 0 disables it -/
  rfTimeout50ms   : Byte
  /-- FAIL_CEIL -/
  failCeil        : Byte
  /-- HEARTBEAT_50MS -/
  heartbeat50ms   : Half
  /-- XTAL_FREQ -/
  xtalFreq        : ℕ+
  /-- TARGET_FREQ -/
  targetFreq      : Nat
  /-- RF_CONFIG_SEQ -/
  rfConfigSeq     : List Byte
  /-- RF_FREQ_HDR[0], [1] and [2] -/
  rfFreqHdr0      : List Byte
  rfFreqHdr1      : List Byte
  rfFreqHdr2      : List Byte
  rfCmdTxfifo     : Byte
  rfCmdStx        : Byte
  rfCmdRxfifo     : Byte
  rfCmdCal        : Byte
  rfDummy         : Byte
  /-- ACK_DECODE (R309) as data: the bytes whose pair is not the default split into nibbles (DESIGN CHOICE, log 15) -/
  ackOverrides    : List (Byte × Byte × Byte)
  /-- BTN_HOLD_THRESH -/
  btnHoldThresh   : Half
  deriving DecidableEq, Repr

namespace Config

/-! The values R7 marks OPEN (DESIGN CHOICE, log 3). They have no body: nothing can evaluate them or prove a value of
them. -/

/-- TICK_PERIOD. -/
opaque openTickPeriod : Nat
/-- SEG_TABLE[p][v] at reset, before it is cut to FRAME_BITS bits. -/
opaque openSegEntry : Nat → Nat → Nat
/-- DP_MASK[p] at reset, before it is cut to FRAME_BITS bits. -/
opaque openDpMask : Nat → Nat
/-- NUM_SETTINGS - 1 at reset, before it is cut to 0..255. -/
opaque openMoreSlots : Nat
/-- SETTINGS[k] at reset, its mask before it is cut to FRAME_BITS bits. -/
opaque openSlot : Nat → Settings
/-- XTAL_FREQ. -/
opaque openXtalFreq : ℕ+
/-- TARGET_FREQ. -/
opaque openTargetFreq : Nat
/-- RF_CONFIG_SEQ. -/
opaque openRfConfigSeq : List Byte
/-- RF_FREQ_HDR[j]. -/
opaque openRfFreqHdr : Nat → List Byte
/-- RF_CMD_TXFIFO. -/
opaque openRfCmdTxfifo : Byte
/-- RF_CMD_STX. -/
opaque openRfCmdStx : Byte
/-- RF_CMD_RXFIFO. -/
opaque openRfCmdRxfifo : Byte
/-- RF_CMD_CAL. -/
opaque openRfCmdCal : Byte
/-- RF_DUMMY. -/
opaque openRfDummy : Byte

/-! The draws (R12): values the environment and the interleaving choose freely. The argument is a counter that
State advances, so that two draws need not agree. -/

/-- The level a sample of a line gives when no level is waiting for it (R12; DESIGN CHOICE, log 10). -/
opaque drawLevel : Line → Nat → Bool
/-- The byte a bus transfer returns when no answer is waiting (R102; DESIGN CHOICE, log 11). -/
opaque drawByte : Nat → Byte
/-- The agent that moves next when no turn is waiting (R6, R112; DESIGN CHOICE, log 6). -/
opaque drawAgent : Nat → Agent
/-- SR_SHIFT at power-on, before it is cut to FRAME_BITS bits (R43; DESIGN CHOICE, log 12). -/
opaque powerOnShift : Nat
/-- SR_LATCH at power-on, before it is cut to FRAME_BITS bits (R43; DESIGN CHOICE, log 12). -/
opaque powerOnLatch : Nat
/-- What SETTINGS[SETSEL] is when SETSEL names no slot, which no run reaches (R38; DESIGN CHOICE, log 17). -/
opaque absentSlot : Settings

/-- The default FRAME_BITS (R7). -/
def defaultFrameBits : Nat := 32

/-- Row p of SEG_TABLE at reset. -/
def openSegRow (p : Nat) : Vector Nat 10 :=
  Vector.ofFn fun v => openSegEntry p v % 2 ^ defaultFrameBits

/-- SETTINGS[k] at reset, its mask FRAME_BITS bits wide (R39). -/
def openSlotOf (k : Nat) : Settings :=
  { openSlot k with alwaysOn := (openSlot k).alwaysOn % 2 ^ defaultFrameBits }

/-- The defaults of R7's table; what it marks OPEN is an opaque constant, cut to the width the spec states. -/
def default : Config where
  cntWidth := 16
  tickPeriod := openTickPeriod
  t1ms := 76
  t10ms := 762
  t50ms := 3810
  dispBitThresh := 76
  frameBits := defaultFrameBits
  segTable := ⟨openSegRow 0, openSegRow 1, openSegRow 2, openSegRow 3⟩
  dpMask := ⟨openDpMask 0 % 2 ^ defaultFrameBits, openDpMask 1 % 2 ^ defaultFrameBits,
             openDpMask 2 % 2 ^ defaultFrameBits, openDpMask 3 % 2 ^ defaultFrameBits⟩
  slot0 := openSlotOf 0
  moreSlots := (List.range (openMoreSlots % 256)).map fun k => openSlotOf (k + 1)
  numChannels := 2
  txEnableA := true
  tAssert := 24
  tPulse := 20
  tGuard := 64
  tTimeout := 130
  brokenCeil := 100#8
  brokenThreshInit := 3#8
  irDelayInit := 0#8
  sendOnPeerLost := true
  rfEnable := true
  retryMax := 100#8
  rfAckWindow := 762
  rfTimeout50ms := 255#8
  failCeil := 10#8
  heartbeat50ms := 200#16
  xtalFreq := openXtalFreq
  targetFreq := openTargetFreq
  rfConfigSeq := openRfConfigSeq
  rfFreqHdr0 := openRfFreqHdr 0
  rfFreqHdr1 := openRfFreqHdr 1
  rfFreqHdr2 := openRfFreqHdr 2
  rfCmdTxfifo := openRfCmdTxfifo
  rfCmdStx := openRfCmdStx
  rfCmdRxfifo := openRfCmdRxfifo
  rfCmdCal := openRfCmdCal
  rfDummy := openRfDummy
  ackOverrides := []
  btnHoldThresh := 200#16

/-- NUM_SETTINGS (R7): SETTINGS[0] and the further slots. -/
def numSettings (c : Config) : Nat := c.moreSlots.length + 1

end Config

end Sys2Proof
end

