-- ==== Sys2Proof/Syntax.lean ====
section
/-! DEFINITION. The 27 commands of spec/opcode_table.json (R134), one constructor a row, with the operand
fields of R132 and R133. A field has exactly the width the encoding gives it, so every term has a word. -/

namespace Sys2Proof

/-- The commands of the port. Mnemonics, formats and rules: R134. -/
inductive Instr where
  /-- NOP (R371) -/
  | nop
  /-- TICK (R170) -/
  | tick
  /-- CNT.RD i (R171) -/
  | cntRd (i : Byte)
  /-- CNT.CLR i (R172) -/
  | cntClr (i : Byte)
  /-- CNT.RDCLR i (R173) -/
  | cntRdclr (i : Byte)
  /-- CNT.CHKRST i, thr (R174) -/
  | cntChkrst (i : Byte) (thr : Half)
  /-- DISP.INC m0, m1, m2, m3 (R200) -/
  | dispInc (m : Quad Byte)
  /-- DISP.ZERO (R201) -/
  | dispZero
  /-- DISP.SET d0, d1, d2, d3 (R203) -/
  | dispSet (d : Quad Byte)
  /-- DISP.DIRTY (R202) -/
  | dispDirty
  /-- DISP.SETTINGS k (R204) -/
  | dispSettings (k : Byte)
  /-- DISP.VALUE (R205) -/
  | dispValue
  /-- DISP.ADV (R207) -/
  | dispAdv
  /-- DISP.RECOMP (R208) -/
  | dispRecomp
  /-- DISP.OFF (R209) -/
  | dispOff
  /-- IR.STEP (R250) -/
  | irStep
  /-- IR.PARAMS thresh, delay (R262) -/
  | irParams (thresh delay : Byte)
  /-- RF.CONFIG (R300) -/
  | rfConfig
  /-- RF.SEND btn, sig (R302) -/
  | rfSend (btn sig : Bool)
  /-- RF.STEP (R303) -/
  | rfStep
  /-- SCHED.STEP (R350) -/
  | schedStep
  /-- PH.DISP (R352) -/
  | phDisp
  /-- PH.1MS (R353) -/
  | ph1ms
  /-- PH.10MS (R354) -/
  | ph10ms
  /-- PH.50MS (R356) -/
  | ph50ms
  /-- SHUTDOWN (R367) -/
  | shutdown
  /-- BOOT (R370) -/
  | boot
  deriving DecidableEq, Repr

end Sys2Proof
end

