-- ==== Sys2Proof/WellFormed.lean ====
section
/-! DEFINITION. What a well-formed command and a well-formed configuration are.
A command's fields have the widths of the encoding by type, so the only checks left on a command are those of its
operands against the machine's sizes (R171 to R174, R204; DEDUCED, log 28). The configuration's checks are R8. -/

namespace Sys2Proof

/-- The command's operands exist on a machine of this many counters and settings slots, so that it raises no
BAD_OPERAND (R403). Every other command is well formed as it stands. -/
def Instr.wf (numCounters numSettings : Nat) : Instr → Bool
  | .cntRd i => decide (i.toNat < numCounters)
  | .cntClr i => decide (i.toNat < numCounters)
  | .cntRdclr i => decide (i.toNat < numCounters)
  | .cntChkrst i _ => decide (i.toNat < numCounters)
  | .dispSettings k => decide (k.toNat < numSettings)
  | .nop => true
  | .tick => true
  | .dispInc _ => true
  | .dispZero => true
  | .dispSet _ => true
  | .dispDirty => true
  | .dispValue => true
  | .dispAdv => true
  | .dispRecomp => true
  | .dispOff => true
  | .irStep => true
  | .irParams _ _ => true
  | .rfConfig => true
  | .rfSend _ _ => true
  | .rfStep => true
  | .schedStep => true
  | .phDisp => true
  | .ph1ms => true
  | .ph10ms => true
  | .ph50ms => true
  | .shutdown => true
  | .boot => true

namespace Config

/-- 2 ≤ CNT_WIDTH ≤ 32 (R8). -/
def wfWidth (c : Config) : Bool := decide (2 ≤ c.cntWidth) && decide (c.cntWidth ≤ 32)

/-- Every tick threshold is below 2^CNT_WIDTH (R8). -/
def wfThresholds (c : Config) : Bool :=
  [c.t1ms, c.t10ms, c.t50ms, c.dispBitThresh, c.tAssert, c.tTimeout, c.rfAckWindow].all
    fun t => decide (t < 2 ^ c.cntWidth)

/-- T_ASSERT + T_PULSE + T_GUARD < T_TIMEOUT (R8). -/
def wfWindows (c : Config) : Bool := decide (c.tAssert + c.tPulse + c.tGuard < c.tTimeout)

/-- 32 ≤ FRAME_BITS ≤ 254 (R8). -/
def wfFrameBits (c : Config) : Bool := decide (32 ≤ c.frameBits) && decide (c.frameBits ≤ 254)

/-- 1 ≤ RETRY_MAX and FAIL_CEIL ≤ 254 (R8; the upper bounds of 8 and 16 bits hold by type). -/
def wfRadio (c : Config) : Bool := decide (1 ≤ c.retryMax.toNat) && decide (c.failCeil.toNat ≤ 254)

/-- NUM_SETTINGS ≤ 256 (R8; at least one slot exists by type). -/
def wfSlots (c : Config) : Bool := decide (c.numSettings ≤ 256)

/-- NUM_CHANNELS ∈ {1, 2} (R8). -/
def wfChannels (c : Config) : Bool := decide (c.numChannels = 1) || decide (c.numChannels = 2)

/-- Every mask of the segment table is FRAME_BITS bits wide (R101). -/
def wfSegments (c : Config) : Bool :=
  c.segTable.toList.all fun row => row.toList.all fun m => decide (m < 2 ^ c.frameBits)

/-- Every decimal-point mask is FRAME_BITS bits wide (R7). -/
def wfDpMasks (c : Config) : Bool := c.dpMask.toList.all fun m => decide (m < 2 ^ c.frameBits)

/-- Every slot's always-on mask is FRAME_BITS bits wide (R39). -/
def wfMasks (c : Config) : Bool :=
  (c.slot0 :: c.moreSlots).all fun st => decide (st.alwaysOn < 2 ^ c.frameBits)

/-- The constraints of R8 and the widths of R39 and R101. The step does not check them (DESIGN CHOICE, log 26);
claims that need them take them as a premise. -/
def wf (c : Config) : Bool :=
  c.wfWidth && c.wfThresholds && c.wfWindows && c.wfFrameBits && c.wfRadio && c.wfSlots &&
    c.wfChannels && c.wfSegments && c.wfDpMasks && c.wfMasks

end Config

end Sys2Proof
end

