-- ==== Sys2Proof/Decode.lean ====
section
/-! DEFINITION. Decoding of the 64-bit command word (R131 to R138), total, rejecting by name, and the encoder
written from the same tables. -/

namespace Sys2Proof

/-- The six formats (R132). -/
inductive Format where
  | n
  | i
  | it
  | q
  | f
  | p
  deriving DecidableEq, Repr

/-- Why a word is no command (R135): (a) or (b). -/
inductive DecodeError where
  /-- the OPC is not one of R134's 27 codes -/
  | illegalOpc
  /-- the OPC is legal and a bit its format marks 0 is set -/
  | reservedBits
  deriving DecidableEq, Repr

/-- The bits that may be nonzero in a word of the format (R138's first table). -/
def fieldMask : Format → Word
  | .n  => 0xFF00000000000000#64
  | .i  => 0xFFFF000000000000#64
  | .it => 0xFFFF00000000FFFF#64
  | .q  => 0xFF00FFFFFFFF0000#64
  | .f  => 0xFF03000000000000#64
  | .p  => 0xFFFF000000FF0000#64

/-- OPC, bits 63:56 (R131). -/
def fieldOpc (w : Word) : Byte := w.extractLsb' 56 8

/-- A, bits 55:48 (R131). -/
def fieldA (w : Word) : Byte := w.extractLsb' 48 8

/-- T, bits 15:0 (R131). -/
def fieldT (w : Word) : Half := w.extractLsb' 0 16

/-- Q0, bits 23:16 (R131). -/
def fieldQ0 (w : Word) : Byte := w.extractLsb' 16 8

/-- The quad operand, `q_p = W[23+8p : 16+8p]` (R133). -/
def fieldQuad (w : Word) : Quad Byte :=
  ⟨w.extractLsb' 16 8, w.extractLsb' 24 8, w.extractLsb' 32 8, w.extractLsb' 40 8⟩

/-- One row of the opcode map: the format, and the command with the operands of R133. -/
structure OpcodeRow where
  fmt   : Format
  build : Word → Instr

/-- The opcode map of R134; every code not listed is illegal. -/
def opcodeRow (opc : Byte) : Option OpcodeRow :=
  match opc with
  | 0x00#8 => some ⟨.n, fun _ => .nop⟩
  | 0x01#8 => some ⟨.n, fun _ => .tick⟩
  | 0x10#8 => some ⟨.i, fun w => .cntRd (fieldA w)⟩
  | 0x11#8 => some ⟨.i, fun w => .cntClr (fieldA w)⟩
  | 0x12#8 => some ⟨.i, fun w => .cntRdclr (fieldA w)⟩
  | 0x13#8 => some ⟨.it, fun w => .cntChkrst (fieldA w) (fieldT w)⟩
  | 0x20#8 => some ⟨.q, fun w => .dispInc (fieldQuad w)⟩
  | 0x21#8 => some ⟨.n, fun _ => .dispZero⟩
  | 0x22#8 => some ⟨.q, fun w => .dispSet (fieldQuad w)⟩
  | 0x23#8 => some ⟨.n, fun _ => .dispDirty⟩
  | 0x24#8 => some ⟨.i, fun w => .dispSettings (fieldA w)⟩
  | 0x25#8 => some ⟨.n, fun _ => .dispValue⟩
  | 0x26#8 => some ⟨.n, fun _ => .dispAdv⟩
  | 0x27#8 => some ⟨.n, fun _ => .dispRecomp⟩
  | 0x28#8 => some ⟨.n, fun _ => .dispOff⟩
  | 0x30#8 => some ⟨.n, fun _ => .irStep⟩
  | 0x31#8 => some ⟨.p, fun w => .irParams (fieldA w) (fieldQ0 w)⟩
  | 0x40#8 => some ⟨.n, fun _ => .rfConfig⟩
  | 0x41#8 => some ⟨.f, fun w => .rfSend (w.getLsbD 49) (w.getLsbD 48)⟩
  | 0x42#8 => some ⟨.n, fun _ => .rfStep⟩
  | 0x50#8 => some ⟨.n, fun _ => .schedStep⟩
  | 0x51#8 => some ⟨.n, fun _ => .phDisp⟩
  | 0x52#8 => some ⟨.n, fun _ => .ph1ms⟩
  | 0x53#8 => some ⟨.n, fun _ => .ph10ms⟩
  | 0x54#8 => some ⟨.n, fun _ => .ph50ms⟩
  | 0x5E#8 => some ⟨.n, fun _ => .shutdown⟩
  | 0x5F#8 => some ⟨.n, fun _ => .boot⟩
  | _ => none

/-- R138's decoding procedure: the opcode first, the reserved bits second. -/
def decode (w : Word) : Except DecodeError Instr :=
  match opcodeRow (fieldOpc w) with
  | none => .error .illegalOpc
  | some r => if w &&& ~~~(fieldMask r.fmt) = 0 then .ok (r.build w) else .error .reservedBits

/-- The fields of R131 put together: `OPC A Q3 Q2 Q1 Q0 T`. -/
def packWord (opc a : Byte) (q : Quad Byte) (t : Half) : Word :=
  opc ++ a ++ q.q3 ++ q.q2 ++ q.q1 ++ q.q0 ++ t

/-- A quad field of zeros. -/
def zeroQuad : Quad Byte := ⟨0, 0, 0, 0⟩

/-- A word of format N. -/
def packN (opc : Byte) : Word := packWord opc 0 zeroQuad 0

/-- A word of format I. -/
def packI (opc a : Byte) : Word := packWord opc a zeroQuad 0

/-- The word of a command (R131 to R134). -/
def encode : Instr → Word
  | .nop => packN 0x00
  | .tick => packN 0x01
  | .cntRd i => packI 0x10 i
  | .cntClr i => packI 0x11 i
  | .cntRdclr i => packI 0x12 i
  | .cntChkrst i thr => packWord 0x13 i zeroQuad thr
  | .dispInc m => packWord 0x20 0 m 0
  | .dispZero => packN 0x21
  | .dispSet d => packWord 0x22 0 d 0
  | .dispDirty => packN 0x23
  | .dispSettings k => packI 0x24 k
  | .dispValue => packN 0x25
  | .dispAdv => packN 0x26
  | .dispRecomp => packN 0x27
  | .dispOff => packN 0x28
  | .irStep => packN 0x30
  | .irParams thresh delay => packWord 0x31 thresh ⟨delay, 0, 0, 0⟩ 0
  | .rfConfig => packN 0x40
  | .rfSend btn sig => packI 0x41 (0#6 ++ BitVec.ofBool btn ++ BitVec.ofBool sig)
  | .rfStep => packN 0x42
  | .schedStep => packN 0x50
  | .phDisp => packN 0x51
  | .ph1ms => packN 0x52
  | .ph10ms => packN 0x53
  | .ph50ms => packN 0x54
  | .shutdown => packN 0x5E
  | .boot => packN 0x5F

/-- The command whose bits are `w`, numbered as spec/opcode_table.json numbers them: a command is one 64-bit word,
bit 0 its least significant bit (R131, R137), so the table's number is the word. A number that does not fit 64 bits
is no command word (DEDUCED, log 25). -/
def decodeTableWord (nbits w : Nat) : Option Instr :=
  if w % 2 ^ nbits < 2 ^ 64 then (decode (BitVec.ofNat 64 (w % 2 ^ nbits))).toOption else none

end Sys2Proof
end

