-- ==== Sys2Proof/Machine/State.lean ====
section
/-! DEFINITION. The state of the machine: every register of spec/10_state.md, the traces of R12, and the model's own
fields that make one step a function of plain data. Then the reset values of R450. -/

namespace Sys2Proof.Machine

/-- The counter bank CNT (R32): the six bound counters of R33 and the spare ones. NUM_COUNTERS is `6 + spare.length`
(DESIGN CHOICE, log 5). A counter is an unsigned integer below 2^CNT_WIDTH; the width is a parameter, so the type is
Nat and the bound is an invariant (DESIGN CHOICE, log 4). -/
structure CounterBank where
  /-- CNT[0] = CNT_IR -/
  ir    : Nat
  /-- CNT[1] = CNT_DISP -/
  disp  : Nat
  /-- CNT[2] = CNT_1MS -/
  ms1   : Nat
  /-- CNT[3] = CNT_10MS -/
  ms10  : Nat
  /-- CNT[4] = CNT_50MS -/
  ms50  : Nat
  /-- CNT[5] = CNT_RFWIN -/
  rfWin : Nat
  /-- CNT[6..NUM_COUNTERS-1] -/
  spare : List Nat
  deriving DecidableEq, Repr

/-- The digit display (R36 to R43): digits, frame, scan index, the three output pins and the external shift
register. FRAME and the shift register are FRAME_BITS bits wide, a parameter: Nat, the bound an invariant (DESIGN
CHOICE, log 4). -/
structure Display where
  /-- DIG[0..3] -/
  dig     : Quad Byte
  /-- DIRTY -/
  dirty   : Bool
  /-- SETSEL -/
  setsel  : Byte
  /-- FRAME -/
  frame   : Nat
  /-- BITIDX -/
  bitIdx  : Byte
  /-- DSP_SER -/
  ser     : Bool
  /-- DSP_SRCLK -/
  srclk   : Bool
  /-- DSP_RCLK -/
  rclk    : Bool
  /-- SR_SHIFT -/
  srShift : Nat
  /-- SR_LATCH -/
  srLatch : Nat
  deriving DecidableEq, Repr

/-- The two channels of the SignalLink. -/
inductive Channel where
  | a
  | b
  deriving DecidableEq, Repr

/-- IRSTATE's 14 values (R50): six for each channel, CONNECTED and ERROR. 14 and 15 are never written (DEDUCED, log
20). -/
inductive IrState where
  | idle (k : Channel)
  | waitHigh (k : Channel)
  | assert (k : Channel)
  | pulse (k : Channel)
  | guard (k : Channel)
  | waitNext (k : Channel)
  | connected
  | error
  deriving DecidableEq, Repr

/-- The IR signal link (R50 to R57). -/
structure SignalLink where
  /-- IRSTATE -/
  state         : IrState
  /-- BROKEN -/
  broken        : Byte
  /-- BROKEN_THRESH -/
  brokenThresh  : Byte
  /-- IR_DELAY -/
  irDelay       : Byte
  /-- COOLDOWN -/
  cooldown      : Byte
  /-- LOST_LATCH -/
  lostLatch     : Bool
  /-- PEER_CONNECTED -/
  peerConnected : Bool
  /-- the output pin IR_OUT_A -/
  outA          : Bool
  deriving DecidableEq, Repr

/-- RFSTATE's five values (R60). 5 to 7 are never written (DEDUCED, log 20). -/
inductive RfState where
  | idle
  | txStart
  | waitCarrierAssert
  | waitCarrierDeassert
  | waitAck
  deriving DecidableEq, Repr

/-- The radio link (R60 to R67). -/
structure RadioLink where
  /-- RFSTATE -/
  state      : RfState
  /-- SEQ -/
  seq        : BitVec 2
  /-- PKT -/
  pkt        : Byte
  /-- RETRY -/
  retry      : Byte
  /-- RF_TO -/
  timeout    : Byte
  /-- FAILS -/
  fails      : Byte
  /-- IDLE_LINK -/
  idleLink   : Half
  /-- ACK_BYTE -/
  ackByte    : Byte
  /-- RF_CONFIGURED -/
  configured : Bool
  deriving DecidableEq, Repr

/-- SYS_STATE (R80). -/
inductive SysState where
  | boot
  | run
  | sdWait
  | halted
  deriving DecidableEq, Repr

/-- The fault registers (R90). -/
structure FaultRegs where
  /-- FAULT_SET -/
  set   : Byte
  /-- FAULT_FIRST -/
  first : Byte
  /-- FAULT_INFO -/
  info  : Word
  deriving DecidableEq, Repr

/-- The output pins (R42, R57). -/
inductive Pin where
  | irOutA
  | dspSer
  | dspSrclk
  | dspRclk
  deriving DecidableEq, Repr

/-- The events of R12. -/
inductive Event where
  | peerLost
  | connected
  | ms1
  | ms10
  | button
  | rfAck
  | rfFail
  | shutdown
  | halt
  deriving DecidableEq, Repr

/-- The three observable logs of R12, oldest entry first (DESIGN CHOICE, log 13): `pin=l`, `bus(b -> r)`, and events. -/
structure Traces where
  pins   : List (Pin × Bool)
  bus    : List (Byte × Byte)
  events : List Event
  deriving DecidableEq, Repr

/-- The MODEL's own record of what the environment and the interleaving give next (DESIGN CHOICE, log 6, 10, 11):
lists that are used up first, and the counter of the draws made without them. -/
structure Env where
  /-- the agents that move next -/
  turns   : List Agent
  /-- levels waiting for the next samples; a sample of a line takes the first entry of that line -/
  levels  : List (Line × Bool)
  /-- bytes the bus returns next -/
  answers : List Byte
  /-- index of the next free draw -/
  draws   : Nat
  deriving DecidableEq, Repr

/-- The whole state. -/
structure State where
  /-- the parameters (R7), fixed for a run (DESIGN CHOICE, log 2) -/
  cfg     : Config
  /-- the counter bank -/
  cnt     : CounterBank
  /-- TICK_EN (R35) -/
  tickEn  : Bool
  disp    : Display
  ir      : SignalLink
  rf      : RadioLink
  /-- RES (R70) -/
  res     : Result
  /-- SYS_STATE (R80) -/
  sys     : SysState
  /-- BTN_HOLD (R81) -/
  btnHold : Half
  /-- ITER_POS (R82), 0 to 5 (DEDUCED, log 20) -/
  iterPos : Fin 6
  flt     : FaultRegs
  out     : Traces
  env     : Env
  /-- command words the HOST has issued and the port has not accepted, the next one first (R130; DESIGN CHOICE, log
  8) -/
  port    : List Word
  deriving DecidableEq, Repr

/-- Why the machine stops: never. R401 makes every model fault a record in FAULT_SET, FAULT_FIRST and FAULT_INFO
after which execution continues, R404 makes protocol timeouts transitions, and the table has no instruction without
an effect, so no step stops with a fault (DEDUCED, log 1). -/
inductive Fault where
  deriving DecidableEq, Repr

/-- Why an instruction has no meaning. -/
inductive Refusal where
  /-- Raised by an arm of exec whose instruction has no meaning yet; safe, since nothing is claimed of it. No arm
  raises it: all 27 commands are modelled. -/
  | notModelled (mnemonic : String)
  deriving DecidableEq, Repr

/-- The reset values of R450 for the parameters `c`, `spares` spare counters, and the power-on content of the
external shift register, which R43 leaves to a draw. -/
def State.resetWith (c : Config) (spares shift latch : Nat) : State where
  cfg := c
  cnt := { ir := 0, disp := 0, ms1 := 0, ms10 := 0, ms50 := 0, rfWin := 0, spare := List.replicate spares 0 }
  tickEn := false
  disp := { dig := ⟨0, 0, 0, 0⟩, dirty := true, setsel := 0, frame := 0,
            bitIdx := BitVec.ofNat 8 (c.frameBits + 1), ser := false, srclk := false, rclk := false,
            srShift := shift % 2 ^ c.frameBits, srLatch := latch % 2 ^ c.frameBits }
  ir := { state := .idle .a, broken := 0, brokenThresh := c.brokenThreshInit, irDelay := c.irDelayInit,
          cooldown := 0, lostLatch := false, peerConnected := false, outA := false }
  rf := { state := .idle, seq := 0, pkt := 0, retry := 0, timeout := 0, fails := 0, idleLink := 0, ackByte := 0,
          configured := false }
  res := 0
  sys := .boot
  btnHold := 0
  iterPos := 0
  flt := { set := 0, first := 0, info := 0 }
  out := { pins := [], bus := [], events := [] }
  env := { turns := [], levels := [], answers := [], draws := 0 }
  port := []

/-- The machine right after power-on (R450): the defaults of R7, six counters, and a shift register whose content
nothing in Lean can evaluate (R43; DESIGN CHOICE, log 12). -/
def State.reset : State :=
  State.resetWith Config.default 0 Config.powerOnShift Config.powerOnLatch

end Sys2Proof.Machine
end

