-- ==== Sys2Proof/Machine/Ops.lean ====
section
/-! DEFINITION. The primitives of R12 and the shared operations over registers: pins, bus, samples, events, the
counter bank, taking a model fault (R401), the turn of the next agent and the command port. -/

namespace Sys2Proof.Machine

/-! ### The counter bank (R32 to R34) -/

/-- NUM_COUNTERS (R7). -/
def CounterBank.size (b : CounterBank) : Nat := 6 + b.spare.length

/-- CNT[i], or none when i ≥ NUM_COUNTERS: index and name of R33. -/
def CounterBank.get? (b : CounterBank) : Nat → Option Nat
  | 0 => some b.ir
  | 1 => some b.disp
  | 2 => some b.ms1
  | 3 => some b.ms10
  | 4 => some b.ms50
  | 5 => some b.rfWin
  | n + 6 => b.spare[n]?

/-- CNT[i] <- 0, the only write but the tick's (R34). An index with no counter writes nothing. -/
def CounterBank.clear (b : CounterBank) : Nat → CounterBank
  | 0 => { b with ir := 0 }
  | 1 => { b with disp := 0 }
  | 2 => { b with ms1 := 0 }
  | 3 => { b with ms10 := 0 }
  | 4 => { b with ms50 := 0 }
  | 5 => { b with rfWin := 0 }
  | n + 6 => { b with spare := b.spare.set n 0 }

/-- One counter after one tick: `(v + 1) mod 2^CNT_WIDTH` (R170). -/
def tickValue (width v : Nat) : Nat := (v + 1) % 2 ^ width

/-- Every counter advances in the same step (R170). -/
def CounterBank.tick (b : CounterBank) (width : Nat) : CounterBank where
  ir := tickValue width b.ir
  disp := tickValue width b.disp
  ms1 := tickValue width b.ms1
  ms10 := tickValue width b.ms10
  ms50 := tickValue width b.ms50
  rfWin := tickValue width b.rfWin
  spare := b.spare.map (tickValue width)

/-- CNT[i] <- 0 on the state. -/
def State.clearCounter (s : State) (i : Nat) : State := { s with cnt := s.cnt.clear i }

/-- RES <- v (R70, R136). -/
def State.setRes (s : State) (v : Result) : State := { s with res := v }

/-- The 1-bit result of a command, in RES. -/
def bitResult (b : Bool) : Result := if b then 1 else 0

/-- `min (v + 1) ceil` in unbounded arithmetic (R10): the saturating counters of R51, R64, R66 and R81. -/
def satInc {w : Nat} (v ceil : BitVec w) : BitVec w := BitVec.ofNat w (min (v.toNat + 1) ceil.toNat)

/-! ### Outputs (R12, R42, R210) -/

/-- Emit(e): appends the event to the event trace. -/
def State.emit (s : State) (e : Event) : State :=
  { s with out := { s.out with events := s.out.events ++ [e] } }

/-- The level of the pin becomes `l`. -/
def State.drivePin (s : State) (p : Pin) (l : Bool) : State :=
  match p with
  | .irOutA => { s with ir := { s.ir with outA := l } }
  | .dspSer => { s with disp := { s.disp with ser := l } }
  | .dspSrclk => { s with disp := { s.disp with srclk := l } }
  | .dspRclk => { s with disp := { s.disp with rclk := l } }

/-- PinWrite(pin, l): drives the pin and records the write, also one of the level it already has (R12, R109). -/
def State.pinWrite (s : State) (p : Pin) (l : Bool) : State :=
  { s.drivePin p l with out := { s.out with pins := s.out.pins ++ [(p, l)] } }

/-- `((SR_SHIFT << 1) or DSP_SER) mod 2^FRAME_BITS` (R210). -/
def shiftIn (frameBits shift : Nat) (ser : Bool) : Nat := (shift <<< 1 ||| ser.toNat) % 2 ^ frameBits

/-- What the external shift register does at the rising edge of a pulse (R210; DEDUCED, log 14). -/
def State.risingEdge (s : State) (p : Pin) : State :=
  match p with
  | .dspSrclk =>
    { s with disp := { s.disp with srShift := shiftIn s.cfg.frameBits s.disp.srShift s.disp.ser } }
  | .dspRclk => { s with disp := { s.disp with srLatch := s.disp.srShift } }
  | .dspSer => s
  | .irOutA => s

/-- Pulse(pin): PinWrite(pin, 1); PinWrite(pin, 0) (R12), with the shift register's action at the rise (R210). -/
def State.pulse (s : State) (p : Pin) : State := ((s.pinWrite p true).risingEdge p).pinWrite p false

/-! ### Draws (R12, R92) -/

/-- The first waiting level of the line. -/
def waitingLevel (l : Line) : List (Line × Bool) → Option Bool
  | [] => none
  | (l', v) :: rest => if l' = l then some v else waitingLevel l rest

/-- The waiting levels without the line's first one. -/
def dropLevel (l : Line) : List (Line × Bool) → List (Line × Bool)
  | [] => []
  | (l', v) :: rest => if l' = l then rest else (l', v) :: dropLevel l rest

/-- The level In(line) returns now: a waiting level, or a free value (DESIGN CHOICE, log 10). -/
def State.level (s : State) (l : Line) : Bool :=
  match waitingLevel l s.env.levels with
  | some v => v
  | none => Config.drawLevel l s.env.draws

/-- In(line): the sample is used up. It has no effect on the CORE's state (R109). -/
def State.sampled (s : State) (l : Line) : State :=
  { s with env := { s.env with levels := dropLevel l s.env.levels, draws := s.env.draws + 1 } }

/-- The byte the bus returns now: a waiting answer, or a free value (DESIGN CHOICE, log 11). -/
def State.answer (s : State) : Byte :=
  match s.env.answers with
  | r :: _ => r
  | [] => Config.drawByte s.env.draws

/-- BusXfer(b): sends b, and records `bus(b -> r)` with the answer r, which is then used up (R12, R102). -/
def State.busXfer (s : State) (b : Byte) : State :=
  { s with
    out := { s.out with bus := s.out.bus ++ [(b, s.answer)] }
    env := { s.env with answers := s.env.answers.tail, draws := s.env.draws + 1 } }

/-- One transfer for each byte, the first byte first, answers discarded (R300). -/
def State.busXfers (s : State) : List Byte → State
  | [] => s
  | b :: bs => (s.busXfer b).busXfers bs

/-! ### Model faults (R401 to R403) -/

/-- The five causes of R403. -/
inductive Cause where
  | illegalOpc
  | reservedBits
  | badOperand
  | digitRange
  | badState
  deriving DecidableEq, Repr

/-- The code of a cause (R403). -/
def Cause.code : Cause → Nat
  | .illegalOpc => 1
  | .reservedBits => 2
  | .badOperand => 3
  | .digitRange => 4
  | .badState => 5

/-- The fault registers after a fault with code c (R401). -/
def FaultRegs.record (f : FaultRegs) (c : Nat) (info : Word) : FaultRegs where
  set := f.set ||| 1#8 <<< (c - 1)
  first := if f.first = 0 then BitVec.ofNat 8 c else f.first
  info := if f.first = 0 then info else f.info

/-- `raise Fault(c, info)` (R401): the machine's only exception. It is recorded in place, with no vector, no saved
state and no change of SYS_STATE (R406), and there is no return from it (R407). The raising operation writes nothing
else. -/
def State.raiseFault (s : State) (c : Cause) (info : Word) : State :=
  { s with flt := s.flt.record c.code info }

/-! ### The next agent and the command port -/

/-- The agent that moves next: a waiting turn, or a free value (DESIGN CHOICE, log 6). -/
def State.nextAgent (s : State) : Agent :=
  match s.env.turns with
  | a :: _ => a
  | [] => Config.drawAgent s.env.draws

/-- The turn is used up. -/
def State.turnTaken (s : State) : State :=
  { s with env := { s.env with turns := s.env.turns.tail, draws := s.env.draws + 1 } }

/-- The command port is served (R130, R349). -/
def State.portServed (s : State) : Bool :=
  match s.sys with
  | .boot => true
  | .run => true
  | .sdWait => false
  | .halted => false

/-- The port accepts the command it was offered. -/
def State.accepted (s : State) : State := { s with port := s.port.tail }

end Sys2Proof.Machine
end

