-- ==== Sys2Proof/Machine/Operands.lean ====
section
/-! DEFINITION. Operand forms and the values computed from parameters and bytes: counter and slot operands (R133),
the lines and outputs of a channel (R250), the packet byte (R62, R302), the frequency word (R301), the acknowledgment
byte (R309), the binary encodings of the state registers (R50, R60, R80). -/

namespace Sys2Proof.Machine

/-! ### Counter and slot operands (R133) -/

/-- The counter a counter-index operand names, none when it is ≥ NUM_COUNTERS. -/
def State.counterOperand (s : State) (i : Byte) : Option Nat := s.cnt.get? i.toNat

/-- `zext_32(CNT[i])` (R171); CNT_WIDTH ≤ 32 makes it the counter's value. -/
def counterResult (v : Nat) : Result := BitVec.ofNat 32 v

/-- SETTINGS[k], none when k ≥ NUM_SETTINGS (R39, R204). -/
def slotOf (c : Config) (k : Byte) : Option Settings := (c.slot0 :: c.moreSlots)[k.toNat]?

/-- `S <- SETTINGS[SETSEL]` (R206). A SETSEL that names no slot is never written (R38); what it would select is a free
value (DESIGN CHOICE, log 17). -/
def State.activeSlot (s : State) : Settings := (slotOf s.cfg s.disp.setsel).getD Config.absentSlot

/-! ### The IR channels (R250) -/

/-- IN_k: the input line of the channel. -/
def inputLine : Channel → Line
  | .a => .irInA
  | .b => .irInB

/-- TX_k: TX_ENABLE_A for channel A, 0 for channel B. -/
def txEnabled (c : Config) : Channel → Bool
  | .a => c.txEnableA
  | .b => false

/-- IRSTATE's number (R50). -/
def IrState.code : IrState → BitVec 4
  | .idle .a => 0
  | .waitHigh .a => 1
  | .assert .a => 2
  | .pulse .a => 3
  | .guard .a => 4
  | .waitNext .a => 5
  | .idle .b => 6
  | .waitHigh .b => 7
  | .assert .b => 8
  | .pulse .b => 9
  | .guard .b => 10
  | .waitNext .b => 11
  | .connected => 12
  | .error => 13

/-! ### The radio's bytes -/

/-- RFSTATE's number (R60). -/
def RfState.code : RfState → BitVec 3
  | .idle => 0
  | .txStart => 1
  | .waitCarrierAssert => 2
  | .waitCarrierDeassert => 3
  | .waitAck => 4

/-- SYS_STATE's number (R80). -/
def SysState.code : SysState → BitVec 2
  | .boot => 0
  | .run => 1
  | .sdWait => 2
  | .halted => 3

/-- PKT's fields (R62): bit 7 BTN, bit 6 SIG, bits 5:2 zero, bits 1:0 SEQ. -/
def packetByte (btn sig : Bool) (seq : BitVec 2) : Byte :=
  BitVec.ofBool btn ++ BitVec.ofBool sig ++ 0#4 ++ seq

/-- FREQ = ((TARGET_FREQ * 2^16) / XTAL_FREQ) mod 2^24, exact (R301). -/
def freqWord (c : Config) : BitVec 24 :=
  BitVec.ofNat 24 (c.targetFreq * 2 ^ 16 / (c.xtalFreq : Nat))

/-- F[23:16], the first frequency byte on the bus (R105). -/
def freqByte0 (c : Config) : Byte := (freqWord c).extractLsb' 16 8

/-- F[15:8]. -/
def freqByte1 (c : Config) : Byte := (freqWord c).extractLsb' 8 8

/-- F[7:0], the last frequency byte on the bus. -/
def freqByte2 (c : Config) : Byte := (freqWord c).extractLsb' 0 8

/-- The bytes of RF.CONFIG in bus order (R300): the register sequence, each frequency byte after its header, most
significant first, and the calibrate command. -/
def configBytes (c : Config) : List Byte :=
  c.rfConfigSeq ++ (c.rfFreqHdr0 ++ [freqByte0 c]) ++ (c.rfFreqHdr1 ++ [freqByte1 c]) ++
    (c.rfFreqHdr2 ++ [freqByte2 c]) ++ [c.rfCmdCal]

/-- The pair a list of exceptions gives the byte, the first entry of the byte counting. -/
def lookupAck (b : Byte) : List (Byte × Byte × Byte) → Option (Byte × Byte)
  | [] => none
  | (b', t, d) :: rest => if b' = b then some (t, d) else lookupAck b rest

/-- ACK_DECODE's default: `(b[7:4], b[3:0])` (R309). -/
def ackNibbles (b : Byte) : Byte × Byte :=
  ((b.extractLsb' 4 4).zeroExtend 8, (b.extractLsb' 0 4).zeroExtend 8)

/-- ACK_DECODE (R309): broken threshold and signal delay of the acknowledgment byte. The parameter is a list of
exceptions to the default, so that every function from bytes to pairs can be given as plain data (DESIGN CHOICE, log
15). -/
def ackDecode (c : Config) (b : Byte) : Byte × Byte := (lookupAck b c.ackOverrides).getD (ackNibbles b)

end Sys2Proof.Machine
end

