-- ==== Sys2Proof/Machine/Flags.lean ====
section
/-! DEFINITION. The conditions: threshold comparisons (R174, R251), the guard of the recompute (R208), the conditions
of the peer-lost event (R260), of accepting a send (R302) and of ending one (R303, R308). -/

namespace Sys2Proof.Machine

/-- `CNT >= thr`, the consumer's test (R174). -/
def reached (v thr : Nat) : Bool := decide (thr ≤ v)

/-- END_ASSERT (R251). -/
def endAssert (c : Config) : Nat := c.tAssert

/-- END_PULSE (R251): the windows are cumulative from the step-2 reset. -/
def endPulse (c : Config) : Nat := c.tAssert + c.tPulse

/-- END_GUARD (R251). -/
def endGuard (c : Config) : Nat := c.tAssert + c.tPulse + c.tGuard

/-- `DIRTY = 1 and BITIDX > FRAME_BITS` (R208). -/
def State.recomputeDue (s : State) : Bool := s.disp.dirty && decide (s.cfg.frameBits < s.disp.bitIdx.toNat)

/-- `BROKEN >= BROKEN_THRESH and LOST_LATCH = 0 and COOLDOWN = 0` (R260). -/
def State.peerLostDue (s : State) : Bool :=
  decide (s.ir.brokenThresh.toNat ≤ s.ir.broken.toNat) && !s.ir.lostLatch && decide (s.ir.cooldown = 0)

/-- `RF_ENABLE = 1 and RF_CONFIGURED = 1 and SYS_STATE = RUN and RFSTATE = RF_IDLE` (R302). -/
def State.sendAccepted (s : State) : Bool :=
  s.cfg.rfEnable && s.rf.configured && decide (s.sys = .run) && decide (s.rf.state = .idle)

/-- `RF_TIMEOUT_50MS != 0 and RF_TO >= RF_TIMEOUT_50MS` (R303). -/
def State.sendTimedOut (s : State) : Bool :=
  decide (s.cfg.rfTimeout50ms ≠ 0) && decide (s.cfg.rfTimeout50ms.toNat ≤ s.rf.timeout.toNat)

/-- `FAILS > FAIL_CEIL` (R308). -/
def State.failuresExceeded (s : State) : Bool := decide (s.cfg.failCeil.toNat < s.rf.fails.toNat)

/-- `IDLE_LINK >= HEARTBEAT_50MS and RFSTATE = RF_IDLE` (R310). -/
def State.heartbeatDue (s : State) : Bool :=
  decide (s.cfg.heartbeat50ms.toNat ≤ s.rf.idleLink.toNat) && decide (s.rf.state = .idle)

/-- `BTN_HOLD >= BTN_HOLD_THRESH` (R354). -/
def State.holdReached (s : State) : Bool := decide (s.cfg.btnHoldThresh.toNat ≤ s.btnHold.toNat)

/-- RF.CONFIG may not run: `RF_ENABLE = 0 or RF_CONFIGURED = 1` (R300). -/
def State.configBarred (s : State) : Bool := !s.cfg.rfEnable || s.rf.configured

end Sys2Proof.Machine
end

