-- ==== Sys2Proof/Machine/DigitDisplay.lean ====
section
/-! DEFINITION. The display's commands and the shift-register output (41_digit_display.md). -/

namespace Sys2Proof.Machine

/-! ### Digits -/

/-- One position of R200's loop: with a carry in, the digit is incremented, and wraps with a carry out when the
incremented value reaches the maximum. -/
def incDigit (carry : Bool) (d m : Byte) : Byte × Bool :=
  if carry then if m.toNat ≤ d.toNat + 1 then (0, true) else (d + 1, false) else (d, false)

/-- R200's loop over the four positions, and the carry out of position 3. -/
def increase (d m : Quad Byte) : Quad Byte × Bool :=
  let r0 := incDigit true d.q0 m.q0
  let r1 := incDigit r0.2 d.q1 m.q1
  let r2 := incDigit r1.2 d.q2 m.q2
  let r3 := incDigit r2.2 d.q3 m.q3
  (⟨r0.1, r1.1, r2.1, r3.1⟩, r3.2)

/-- `DIG[0] + 10*DIG[1] + 100*DIG[2] + 1000*DIG[3]` (R205). -/
def digitsValue (d : Quad Byte) : Nat :=
  d.q0.toNat + 10 * d.q1.toNat + 100 * d.q2.toNat + 1000 * d.q3.toNat

def State.setDigits (s : State) (d : Quad Byte) : State := { s with disp := { s.disp with dig := d } }

def State.setDirty (s : State) (b : Bool) : State := { s with disp := { s.disp with dirty := b } }

/-- DISP.INC (R200). -/
def execDispInc (m : Quad Byte) (s : State) : Host.Outcome State Fault Refusal :=
  .next (((s.setDigits (increase s.disp.dig m).1).setDirty true).setRes (bitResult (increase s.disp.dig m).2))

/-- DISP.ZERO (R201). -/
def execDispZero (s : State) : Host.Outcome State Fault Refusal :=
  .next ((s.setDigits ⟨0, 0, 0, 0⟩).setDirty true)

/-- DISP.DIRTY (R202). -/
def execDispDirty (s : State) : Host.Outcome State Fault Refusal := .next (s.setDirty true)

/-- DISP.SET (R203): the operands are stored unmasked and DIRTY is not written. -/
def execDispSet (d : Quad Byte) (s : State) : Host.Outcome State Fault Refusal := .next (s.setDigits d)

/-- DISP.SETTINGS k (R204). -/
def execDispSettings (k : Byte) (s : State) : Host.Outcome State Fault Refusal :=
  .next <|
    if s.cfg.numSettings ≤ k.toNat then s.raiseFault .badOperand (encode (.dispSettings k))
    else { s with disp := { s.disp with setsel := k } }

/-- DISP.VALUE (R205). -/
def execDispValue (s : State) : Host.Outcome State Fault Refusal :=
  .next (s.setRes (BitVec.ofNat 32 (digitsValue s.disp.dig)))

/-! ### The frame (R206) -/

/-- The digit as an index into a row of SEG_TABLE, none when it is above 9. -/
def digitIndex (d : Byte) : Option (Fin 10) := if h : d.toNat < 10 then some ⟨d.toNat, h⟩ else none

/-- `zext_64(DIG[p] << 8 | p)`, the information of DIGIT_RANGE (R206, R403). -/
def digitFaultInfo (d : Byte) (p : Nat) : Word := BitVec.ofNat 64 (d.toNat <<< 8 ||| p)

/-- The range check before any write: the four table indices, or the information of the lowest position whose digit
is above 9 (R206). -/
def checkDigits (d : Quad Byte) : Except Word (Quad (Fin 10)) :=
  match digitIndex d.q0, digitIndex d.q1, digitIndex d.q2, digitIndex d.q3 with
  | none, _, _, _ => .error (digitFaultInfo d.q0 0)
  | some _, none, _, _ => .error (digitFaultInfo d.q1 1)
  | some _, some _, none, _ => .error (digitFaultInfo d.q2 2)
  | some _, some _, some _, none => .error (digitFaultInfo d.q3 3)
  | some v0, some v1, some v2, some v3 => .ok ⟨v0, v1, v2, v3⟩

/-- One position's contribution: its segment mask, unless the value is 0 and the position is suppressed, and its
decimal point (R206). -/
def segmentBits (row : Vector Nat 10) (dpMask : Nat) (suppress dp : Bool) (v : Fin 10) : Nat :=
  (if v = 0 ∧ suppress = true then 0 else row[v]) ||| (if dp = true then dpMask else 0)

/-- The frame of four digits in range (R206): the always-on bits OR-ed with each position's contribution. -/
def frameBitsOf (c : Config) (st : Settings) (v : Quad (Fin 10)) : Nat :=
  st.alwaysOn
    ||| segmentBits c.segTable.q0 c.dpMask.q0 st.suppress.q0 st.dp.q0 v.q0
    ||| segmentBits c.segTable.q1 c.dpMask.q1 st.suppress.q1 st.dp.q1 v.q1
    ||| segmentBits c.segTable.q2 c.dpMask.q2 st.suppress.q2 st.dp.q2 v.q2
    ||| segmentBits c.segTable.q3 c.dpMask.q3 st.suppress.q3 st.dp.q3 v.q3

/-- `frame_of()` (R206): the frame, or the information of the DIGIT_RANGE fault. -/
def State.frameOf (s : State) : Except Word Nat :=
  match checkDigits s.disp.dig with
  | .error info => .error info
  | .ok v => .ok (frameBitsOf s.cfg s.activeSlot v)

/-- A new frame starts a scan: FRAME <- f, DIRTY <- 0, BITIDX <- 0 (R208). -/
def State.startScan (s : State) (f : Nat) : State :=
  { s with disp := { s.disp with frame := f, dirty := false, bitIdx := 0 } }

/-- `recomputeFrame()` (R208). Inside PH.50MS it is run with `try` (R356, R402): a fault ends the recompute only, and
that is what this operation does, since a fault writes nothing but the fault registers. -/
def recomputeFrame (s : State) : State :=
  if s.recomputeDue then
    match s.frameOf with
    | .error info => s.raiseFault .digitRange info
    | .ok f => s.startScan f
  else s

/-- DISP.RECOMP (R208). -/
def execDispRecomp (s : State) : Host.Outcome State Fault Refusal := .next (recomputeFrame s)

/-! ### The scan (R207, R209) -/

def State.setBitIdx (s : State) (i : Byte) : State := { s with disp := { s.disp with bitIdx := i } }

/-- FRAME_BITS + 1, "scan complete" (R41), in the 8-bit register (DESIGN CHOICE, log 21). -/
def scanComplete (c : Config) : Byte := BitVec.ofNat 8 (c.frameBits + 1)

/-- PinWrite(DSP_SER, b); Pulse(DSP_SRCLK). -/
def State.shiftOut (s : State) (b : Bool) : State := (s.pinWrite .dspSer b).pulse .dspSrclk

/-- `advanceOneTick()` (R207): one bit, or the latch pulse, or nothing between scans. -/
def advanceScan (s : State) : State :=
  if s.disp.bitIdx.toNat < s.cfg.frameBits then
    (s.shiftOut (s.disp.frame.testBit s.disp.bitIdx.toNat)).setBitIdx (s.disp.bitIdx + 1)
  else if s.disp.bitIdx.toNat = s.cfg.frameBits then
    (s.pulse .dspRclk).setBitIdx (scanComplete s.cfg)
  else s

/-- DISP.ADV (R207). -/
def execDispAdv (s : State) : Host.Outcome State Fault Refusal := .next (advanceScan s)

/-- `n` zero bits shifted out. -/
def State.shiftZeros (s : State) : Nat → State
  | 0 => s
  | n + 1 => (s.shiftOut false).shiftZeros n

/-- `turnOff()` (R209): FRAME_BITS zero bits and one latch pulse in one step. -/
def turnOff (s : State) : State :=
  ((s.shiftZeros s.cfg.frameBits).pulse .dspRclk).setBitIdx (scanComplete s.cfg)

/-- DISP.OFF (R209). -/
def execDispOff (s : State) : Host.Outcome State Fault Refusal := .next (turnOff s)

end Sys2Proof.Machine
end

