-- ==== Sys2Proof/Machine/Shutdown.lean ====
section
/-! DEFINITION. The shutdown sequence, the SHUTDOWN command and the release wait (44_scheduler.md, section 3). -/

namespace Sys2Proof.Machine

/-- The five writes around DISP.OFF of `Shutdown()` (R365), in its order. -/
def shutdownBody (s : State) : State :=
  let s := { s with tickEn := false }
  let s := s.pinWrite .irOutA false
  let s := turnOff s
  let s := { s with rf := { s.rf with state := .idle }, sys := .sdWait }
  s.emit .shutdown

/-- `Shutdown()` (R365): never re-entered in SD_WAIT or HALTED. -/
def shutdownSeq (s : State) : State :=
  match s.sys with
  | .boot => shutdownBody s
  | .run => shutdownBody s
  | .sdWait => s
  | .halted => s

/-- SHUTDOWN (R367). -/
def execShutdown (s : State) : Host.Outcome State Fault Refusal := .next (shutdownSeq s)

/-- The release wait, the FOREGROUND's step in SD_WAIT (R360). -/
def releaseWait (s : State) : State :=
  if s.level .button then s.sampled .button
  else { s.sampled .button with sys := .halted }.emit .halt

end Sys2Proof.Machine
end

