-- ==== Sys2Proof/Machine/RadioLink.lean ====
section
/-! DEFINITION. The radio link's commands (43_radio_link.md). -/

namespace Sys2Proof.Machine

def State.setRfState (s : State) (x : RfState) : State := { s with rf := { s.rf with state := x } }

/-- R300 after its check: the configuration bytes on the bus, then RF_CONFIGURED <- 1. -/
def configureRadio (s : State) : State :=
  let s := s.busXfers (configBytes s.cfg)
  { s with rf := { s.rf with configured := true } }

/-- RF.CONFIG (R300). -/
def execRfConfig (s : State) : Host.Outcome State Fault Refusal :=
  .next (if s.configBarred then s.raiseFault .badState (encode .rfConfig) else configureRadio s)

/-- The writes of an accepted send (R302). -/
def State.startSend (s : State) (btn sig : Bool) : State :=
  { s with rf := { s.rf with pkt := packetByte btn sig s.rf.seq, seq := s.rf.seq + 1, retry := s.cfg.retryMax,
                             timeout := 0, idleLink := 0, state := .txStart } }

/-- The internal `sendPacket(btn, sig)` (R302): a request that is not accepted is dropped and writes nothing. -/
def sendPacket (btn sig : Bool) (s : State) : State := if s.sendAccepted then s.startSend btn sig else s

/-- RF.SEND btn, sig (R302): sendPacket, and RES tells whether the request was accepted. -/
def execRfSend (btn sig : Bool) (s : State) : Host.Outcome State Fault Refusal :=
  .next ((sendPacket btn sig s).setRes (bitResult s.sendAccepted))

/-- `exhausted()` (R308). -/
def exhausted (s : State) : State :=
  let s := { s with rf := { s.rf with fails := s.rf.fails + 1 } }
  let s := (s.emit .rfFail).setRfState .idle
  if s.failuresExceeded then shutdownSeq s else s

/-- Arm RF_TX_START (R304). -/
def rfTxStart (s : State) : State :=
  (s.busXfers [s.cfg.rfCmdTxfifo, s.rf.pkt, s.cfg.rfCmdStx]).setRfState .waitCarrierAssert

/-- Arm RF_WAIT_CARRIER_ASSERT (R305). -/
def rfWaitCarrierAssert (s : State) : State :=
  if s.level .rfCarrier then (s.sampled .rfCarrier).setRfState .waitCarrierDeassert else s.sampled .rfCarrier

/-- Arm RF_WAIT_CARRIER_DEASSERT (R305): the receive window starts at the deassert. -/
def rfWaitCarrierDeassert (s : State) : State :=
  if s.level .rfCarrier then s.sampled .rfCarrier
  else ((s.sampled .rfCarrier).clearCounter 5).setRfState .waitAck

/-- The acknowledgment branch of R306: b is the byte the second transfer returned. -/
def State.acknowledge (s : State) (b : Byte) : State :=
  let p := ackDecode s.cfg b
  let s := { s with rf := { s.rf with ackByte := b, fails := 0, state := .idle },
                    ir := { s.ir with brokenThresh := p.1, irDelay := p.2 } }
  s.emit .rfAck

/-- The read of the receive buffer and what follows it (R306). -/
def readAck (s : State) : State :=
  let s := s.busXfer s.cfg.rfCmdRxfifo
  let b := s.answer
  let s := s.busXfer s.cfg.rfDummy
  s.acknowledge b

/-- The elapsed window of R306: retransmit while retries remain, else exhausted. -/
def windowElapsed (s : State) : State :=
  let s := { s with rf := { s.rf with retry := s.rf.retry - 1 } }
  if s.rf.retry = 0 then exhausted s
  else (s.busXfer s.cfg.rfCmdStx).setRfState .waitCarrierAssert

/-- Arm RF_WAIT_ACK (R306): the acknowledgment wins over the window's end. -/
def rfWaitAck (s : State) : State :=
  let w := s.cnt.rfWin
  let a := s.level .rfAck
  let s := s.sampled .rfAck
  if a then readAck s else if reached w s.cfg.rfAckWindow then windowElapsed s else s

/-- The send state machine's step (R303): the overall timeout is checked before the state's own action. -/
def radioStep (s : State) : State :=
  if s.cfg.rfEnable = false ∨ s.rf.state = .idle then s
  else if s.sendTimedOut then exhausted s
  else
    match s.rf.state with
    | .idle => s
    | .txStart => rfTxStart s
    | .waitCarrierAssert => rfWaitCarrierAssert s
    | .waitCarrierDeassert => rfWaitCarrierDeassert s
    | .waitAck => rfWaitAck s

/-- RF.STEP (R303). -/
def execRfStep (s : State) : Host.Outcome State Fault Refusal := .next (radioStep s)

/-- `rf_timeout_phase()` (R307). -/
def rfTimeoutPhase (s : State) : State :=
  if s.cfg.rfEnable = true ∧ s.rf.state ≠ .idle then
    { s with rf := { s.rf with timeout := satInc s.rf.timeout 255 } }
  else s

/-- `heartbeat_phase()` (R310). -/
def heartbeatPhase (s : State) : State :=
  if s.cfg.rfEnable then
    let s := { s with rf := { s.rf with idleLink := satInc s.rf.idleLink 0xFFFF } }
    if s.heartbeatDue then sendPacket false false s else s
  else s

end Sys2Proof.Machine
end

