-- ==== Sys2Proof/Machine/SignalLink.lean ====
section
/-! DEFINITION. The IR signal link's commands (42_signal_link.md). -/

namespace Sys2Proof.Machine

def State.setIrState (s : State) (x : IrState) : State := { s with ir := { s.ir with state := x } }

/-- Arm k_IDLE (R252): the timeout is checked before the line. -/
def irIdle (k : Channel) (c : Nat) (s : State) : State :=
  let l := s.level (inputLine k)
  let s := s.sampled (inputLine k)
  if reached c s.cfg.tTimeout then s.setIrState .error
  else if l then s
  else s.setIrState (.waitHigh k)

/-- Arm k_WAIT_HIGH (R253). -/
def irWaitHigh (k : Channel) (c : Nat) (s : State) : State :=
  let l := s.level (inputLine k)
  let s := s.sampled (inputLine k)
  if reached c s.cfg.tTimeout then s.setIrState .error
  else if l then (s.clearCounter 0).setIrState (.assert k)
  else s

/-- `if TX_k = 1: PinWrite(IR_OUT_A, l)` (R254, R255). -/
def State.driveOut (s : State) (k : Channel) (l : Bool) : State :=
  if txEnabled s.cfg k then s.pinWrite .irOutA l else s

/-- Arm k_ASSERT (R254). -/
def irAssert (k : Channel) (c : Nat) (s : State) : State :=
  if reached c (endAssert s.cfg) then (s.driveOut k true).setIrState (.pulse k) else s

/-- Arm k_PULSE (R255). -/
def irPulse (k : Channel) (c : Nat) (s : State) : State :=
  if reached c (endPulse s.cfg) then (s.driveOut k false).setIrState (.guard k) else s

/-- Arm k_GUARD (R256). -/
def irGuard (k : Channel) (c : Nat) (s : State) : State :=
  if reached c (endGuard s.cfg) then s.setIrState (.waitNext k) else s

/-- Arm k_WAIT_NEXT (R257). -/
def irWaitNext (k : Channel) (c : Nat) (s : State) : State :=
  let l := s.level (inputLine k)
  let s := s.sampled (inputLine k)
  if reached c s.cfg.tTimeout then s.setIrState .error
  else if l then s
  else if k = .a ∧ s.cfg.numChannels = 2 then (s.clearCounter 0).setIrState (.idle .b)
  else s.setIrState .connected

/-- Arm CONNECTED (R258). -/
def irConnected (s : State) : State :=
  let s := { s with ir := { s.ir with broken := 0, lostLatch := false, peerConnected := true } }
  ((s.emit .connected).clearCounter 0).setIrState (.idle .a)

/-- `peer_lost_check()` (R260). -/
def peerLostCheck (s : State) : State :=
  if s.peerLostDue then
    let s := { s with ir := { s.ir with lostLatch := true, peerConnected := false, cooldown := s.ir.irDelay } }
    let s := s.emit .peerLost
    if s.cfg.rfEnable && s.cfg.sendOnPeerLost then sendPacket false true s else s
  else s

/-- Arm ERROR (R259). -/
def irError (s : State) : State :=
  let s := { s with ir := { s.ir with broken := satInc s.ir.broken s.cfg.brokenCeil } }
  ((peerLostCheck s).clearCounter 0).setIrState (.idle .a)

/-- The SignalLink's step (R250): CNT_IR is read once, at the start, and at most one transition is made. -/
def signalStep (s : State) : State :=
  let c := s.cnt.ir
  match s.ir.state with
  | .idle k => irIdle k c s
  | .waitHigh k => irWaitHigh k c s
  | .assert k => irAssert k c s
  | .pulse k => irPulse k c s
  | .guard k => irGuard k c s
  | .waitNext k => irWaitNext k c s
  | .connected => irConnected s
  | .error => irError s

/-- IR.STEP (R250). -/
def execIrStep (s : State) : Host.Outcome State Fault Refusal := .next (signalStep s)

/-- IR.PARAMS thresh, delay (R262). -/
def execIrParams (thresh delay : Byte) (s : State) : Host.Outcome State Fault Refusal :=
  .next { s with ir := { s.ir with brokenThresh := thresh, irDelay := delay } }

end Sys2Proof.Machine
end

