-- ==== Sys2Proof/Machine/TickCounter.lean ====
section
/-! DEFINITION. The counter bank's commands (40_tick_counter_bank.md). -/

namespace Sys2Proof.Machine

/-- The TIMER's step and the command's (R170, R178): every counter advances when TICK_EN = 1, nothing otherwise. -/
def tickStep (s : State) : State :=
  if s.tickEn then { s with cnt := s.cnt.tick s.cfg.cntWidth } else s

/-- TICK (R170). -/
def execTick (s : State) : Host.Outcome State Fault Refusal := .next (tickStep s)

/-- CNT.RD i (R171). -/
def execCntRd (i : Byte) (s : State) : Host.Outcome State Fault Refusal :=
  .next <|
    match s.counterOperand i with
    | none => s.raiseFault .badOperand (encode (.cntRd i))
    | some v => s.setRes (counterResult v)

/-- CNT.CLR i (R172). -/
def execCntClr (i : Byte) (s : State) : Host.Outcome State Fault Refusal :=
  .next <|
    match s.counterOperand i with
    | none => s.raiseFault .badOperand (encode (.cntClr i))
    | some _ => s.clearCounter i.toNat

/-- CNT.RDCLR i (R173): read and reset in one step. -/
def execCntRdclr (i : Byte) (s : State) : Host.Outcome State Fault Refusal :=
  .next <|
    match s.counterOperand i with
    | none => s.raiseFault .badOperand (encode (.cntRdclr i))
    | some v => (s.setRes (counterResult v)).clearCounter i.toNat

/-- CNT.CHKRST i, thr (R174). A threshold of 2^CNT_WIDTH or more is never met, since no counter reaches it (R133). -/
def execCntChkrst (i : Byte) (thr : Half) (s : State) : Host.Outcome State Fault Refusal :=
  .next <|
    match s.counterOperand i with
    | none => s.raiseFault .badOperand (encode (.cntChkrst i thr))
    | some v =>
      if reached v thr.toNat then (s.clearCounter i.toNat).setRes (bitResult true)
      else s.setRes (bitResult false)

end Sys2Proof.Machine
end

