-- ==== Sys2Proof/Machine/Scheduler.lean ====
section
/-! DEFINITION. The scheduler's phases and steps, BOOT and NOP (44_scheduler.md). -/

namespace Sys2Proof.Machine

/-- PH.DISP's step (R352). -/
def displayPhase (s : State) : State :=
  if reached s.cnt.disp s.cfg.dispBitThresh then advanceScan (s.clearCounter 1) else s

/-- PH.DISP (R352). -/
def execPhDisp (s : State) : Host.Outcome State Fault Refusal := .next (displayPhase s)

/-- PH.1MS's step (R353). -/
def phase1ms (s : State) : State :=
  if reached s.cnt.ms1 s.cfg.t1ms then (s.clearCounter 2).emit .ms1 else s

/-- PH.1MS (R353). -/
def execPh1ms (s : State) : Host.Outcome State Fault Refusal := .next (phase1ms s)

/-- The pressed sample of R354: EV_BUTTON once a press, the hold counter, and shutdown at its threshold. -/
def buttonHeld (s : State) : State :=
  let s := if s.btnHold = 0 then s.emit .button else s
  let s := { s with btnHold := satInc s.btnHold 0xFFFF }
  if s.holdReached then shutdownSeq s else s

/-- PH.10MS's step (R354). -/
def phase10ms (s : State) : State :=
  if reached s.cnt.ms10 s.cfg.t10ms then
    let s := (s.clearCounter 3).emit .ms10
    let b := s.level .button
    let s := s.sampled .button
    if b then buttonHeld s else { s with btnHold := 0 }
  else s

/-- PH.10MS (R354). -/
def execPh10ms (s : State) : Host.Outcome State Fault Refusal := .next (phase10ms s)

/-- `if COOLDOWN > 0: COOLDOWN <- COOLDOWN - 1` (R356). -/
def cooldownPhase (s : State) : State :=
  if s.ir.cooldown = 0 then s else { s with ir := { s.ir with cooldown := s.ir.cooldown - 1 } }

/-- PH.50MS's step (R356): a cutoff shuts down and nothing else of the phase runs. -/
def phase50ms (s : State) : State :=
  if reached s.cnt.ms50 s.cfg.t50ms then
    let s := s.clearCounter 4
    let v := s.level .vCutoff
    let s := s.sampled .vCutoff
    if v then shutdownSeq s
    else heartbeatPhase (rfTimeoutPhase (cooldownPhase (recomputeFrame s)))
  else s

/-- PH.50MS (R356). -/
def execPh50ms (s : State) : Host.Outcome State Fault Refusal := .next (phase50ms s)

/-- The component step of R350's case. -/
def componentStep (p : Fin 6) (s : State) : State :=
  match p with
  | 0 => radioStep s
  | 1 => signalStep s
  | 2 => displayPhase s
  | 3 => phase1ms s
  | 4 => phase10ms s
  | 5 => phase50ms s

/-- SCHED.STEP's step (R350): outside RUN it writes nothing. -/
def schedulerStep (s : State) : State :=
  if s.sys = .run then { componentStep s.iterPos s with iterPos := s.iterPos + 1 } else s

/-- SCHED.STEP (R350). -/
def execSchedStep (s : State) : Host.Outcome State Fault Refusal := .next (schedulerStep s)

/-- BOOT's step (R370). -/
def bootStep (s : State) : State :=
  if s.sys = .boot then
    let s := if s.cfg.rfEnable && !s.rf.configured then configureRadio s else s
    { s with tickEn := true, sys := .run }
  else s.raiseFault .badState (encode .boot)

/-- BOOT (R370). -/
def execBoot (s : State) : Host.Outcome State Fault Refusal := .next (bootStep s)

/-- NOP (R371). -/
def execNop (s : State) : Host.Outcome State Fault Refusal := .next s

end Sys2Proof.Machine
end

