-- ==== Sys2Proof/Machine/Dispatch.lean ====
section
/-! DEFINITION. The meaning of every command, one arm a constructor. -/

namespace Sys2Proof.Machine

open Sys2Proof

def exec (i : Instr) (s : State) : Host.Outcome State Fault Refusal :=
  match i with
  | .nop => Sys2Proof.Machine.execNop s
  | .tick => Sys2Proof.Machine.execTick s
  | .cntRd n => Sys2Proof.Machine.execCntRd n s
  | .cntClr n => Sys2Proof.Machine.execCntClr n s
  | .cntRdclr n => Sys2Proof.Machine.execCntRdclr n s
  | .cntChkrst n thr => Sys2Proof.Machine.execCntChkrst n thr s
  | .dispInc m => Sys2Proof.Machine.execDispInc m s
  | .dispZero => Sys2Proof.Machine.execDispZero s
  | .dispSet d => Sys2Proof.Machine.execDispSet d s
  | .dispDirty => Sys2Proof.Machine.execDispDirty s
  | .dispSettings k => Sys2Proof.Machine.execDispSettings k s
  | .dispValue => Sys2Proof.Machine.execDispValue s
  | .dispAdv => Sys2Proof.Machine.execDispAdv s
  | .dispRecomp => Sys2Proof.Machine.execDispRecomp s
  | .dispOff => Sys2Proof.Machine.execDispOff s
  | .irStep => Sys2Proof.Machine.execIrStep s
  | .irParams thresh delay => Sys2Proof.Machine.execIrParams thresh delay s
  | .rfConfig => Sys2Proof.Machine.execRfConfig s
  | .rfSend btn sig => Sys2Proof.Machine.execRfSend btn sig s
  | .rfStep => Sys2Proof.Machine.execRfStep s
  | .schedStep => Sys2Proof.Machine.execSchedStep s
  | .phDisp => Sys2Proof.Machine.execPhDisp s
  | .ph1ms => Sys2Proof.Machine.execPh1ms s
  | .ph10ms => Sys2Proof.Machine.execPh10ms s
  | .ph50ms => Sys2Proof.Machine.execPh50ms s
  | .shutdown => Sys2Proof.Machine.execShutdown s
  | .boot => Sys2Proof.Machine.execBoot s

end Sys2Proof.Machine
end

