-- ==== Sys2Proof/Machine/Agents.lean ====
section
/-! DEFINITION. The steps of the three agents (R6, R130, R349). An agent that is not enabled has no step: the machine
stays as it is (R13; DESIGN CHOICE, log 7). -/

namespace Sys2Proof.Machine

/-- The TIMER's step (R170, R178). -/
def timerAgent (s : State) : Host.Outcome State Fault Refusal := .next (tickStep s)

/-- The FOREGROUND's step (R349). -/
def foregroundAgent (s : State) : Host.Outcome State Fault Refusal :=
  match s.sys with
  | .boot => .next (bootStep s)
  | .run => .next (schedulerStep s)
  | .sdWait => .next (releaseWait s)
  | .halted => .next s

/-- The cause of a decode error (R135, R403). -/
def decodeCause : DecodeError → Cause
  | .illegalOpc => .illegalOpc
  | .reservedBits => .reservedBits

/-- One command word executed: decode first, then the command (R138). A word that is no command raises a fault with
the word as its information. -/
def runWord (w : Word) (s : State) : Host.Outcome State Fault Refusal :=
  match decode w with
  | .ok i => exec i s
  | .error e => .next (s.raiseFault (decodeCause e) w)

/-- The HOST's step (R130): in BOOT and RUN the port accepts the next word and executes it; in SD_WAIT and HALTED, and
when no word is offered, there is no step (DEDUCED / DESIGN CHOICE, log 7, 8, 9). -/
def hostAgent (s : State) : Host.Outcome State Fault Refusal :=
  if s.portServed then
    match s.port with
    | [] => .next s
    | w :: _ => runWord w s.accepted
  else .next s

end Sys2Proof.Machine
end

