-- ==== Sys2Proof/Machine/Step.lean ====
section
/-! DEFINITION. One step of the machine: the next agent's step (R6, R112, R113), and the host's way to place a command
where the next step takes it. -/

namespace Sys2Proof.Machine

/-- One atomic step (R113): the turn is taken, then the agent steps. -/
def step (s : State) : Host.Outcome State Fault Refusal :=
  match s.nextAgent with
  | .timer => timerAgent s.turnTaken
  | .foreground => foregroundAgent s.turnTaken
  | .host => hostAgent s.turnTaken

/-- `s` with the command whose bits are `w` first at the command port and the HOST next to move, so that the next step
takes and runs it where the port is served (R130; DESIGN CHOICE, log 19). -/
def State.withFetchWord (s : State) (nbits w : Nat) : State :=
  { s with env := { s.env with turns := .host :: s.env.turns }
           port := BitVec.ofNat 64 (w % 2 ^ nbits) :: s.port }

end Sys2Proof.Machine
end

