-- ==== Sys2Proof/Safety.lean ====
section
/-! DEFINITION. The words claims are made in: runs of commands, the legal ranges of the registers, and the invariants
the spec states (R263, R312) or derives from its registers' rules. -/

namespace Sys2Proof.Machine

/-- Commands executed one after another (R130), stopping at the first that does not answer a next state. -/
def execList : List Instr → State → Host.Outcome State Fault Refusal
  | [], s => .next s
  | i :: rest, s =>
    match exec i s with
    | .next t => execList rest t
    | .fault r => .fault r
    | .refused r => .refused r

/-- An infinite run, given by the states in which its steps are taken. Between two steps ENV may change what it gives
next and the HOST the words it offers (R6, R130); everything else is what the step left. -/
def IsRun (x : Nat → State) : Prop :=
  ∀ n, ∃ t env port, step (x n) = .next t ∧ x (n + 1) = { t with env := env, port := port }

/-- The fairness of R119: the TIMER steps infinitely often while TICK_EN = 1, and the FOREGROUND infinitely often while
SYS_STATE is RUN or SD_WAIT. The step assumes it of no run (log 23); a claim that needs it takes it as a premise. -/
structure Fair (x : Nat → State) : Prop where
  timer      : ∀ n, ∃ m, n ≤ m ∧ ((x m).nextAgent = .timer ∨ (x m).tickEn = false)
  foreground : ∀ n, ∃ m, n ≤ m ∧
    ((x m).nextAgent = .foreground ∨ ((x m).sys ≠ .run ∧ (x m).sys ≠ .sdWait))

/-- The opcodes of R134 with their formats, as its table lists them. -/
def opcodeFormats : List (Byte × Format) :=
  [(0x00#8, .n), (0x01#8, .n), (0x10#8, .i), (0x11#8, .i), (0x12#8, .i), (0x13#8, .it),
   (0x20#8, .q), (0x21#8, .n), (0x22#8, .q), (0x23#8, .n), (0x24#8, .i), (0x25#8, .n), (0x26#8, .n), (0x27#8, .n),
   (0x28#8, .n), (0x30#8, .n), (0x31#8, .p), (0x40#8, .n), (0x41#8, .f), (0x42#8, .n),
   (0x50#8, .n), (0x51#8, .n), (0x52#8, .n), (0x53#8, .n), (0x54#8, .n), (0x5E#8, .n), (0x5F#8, .n)]

/-- What a word of the format may not carry, field by field (R132): the reserved fields are all zero. -/
def reservedZero : Format → Word → Prop
  | .n, w => fieldA w = 0 ∧ fieldQuad w = zeroQuad ∧ fieldT w = 0
  | .i, w => fieldQuad w = zeroQuad ∧ fieldT w = 0
  | .it, w => fieldQuad w = zeroQuad
  | .q, w => fieldA w = 0 ∧ fieldT w = 0
  | .f, w => fieldA w &&& 0xFC#8 = 0 ∧ fieldQuad w = zeroQuad ∧ fieldT w = 0
  | .p, w => (fieldQuad w).q1 = 0 ∧ (fieldQuad w).q2 = 0 ∧ (fieldQuad w).q3 = 0 ∧ fieldT w = 0

/-- The six commands that write RES (R136). -/
def writesResult : Instr → Bool
  | .cntRd _ | .cntRdclr _ | .cntChkrst _ _ | .dispInc _ | .dispValue | .rfSend _ _ => true
  | .nop | .tick | .cntClr _ | .dispZero | .dispSet _ | .dispDirty | .dispSettings _ | .dispAdv | .dispRecomp
  | .dispOff | .irStep | .irParams _ _ | .rfConfig | .rfStep | .schedStep | .phDisp | .ph1ms | .ph10ms | .ph50ms
  | .shutdown | .boot => false

/-- The component command of each place of an iteration (R350). -/
def componentCommand : Fin 6 → Instr
  | 0 => .rfStep
  | 1 => .irStep
  | 2 => .phDisp
  | 3 => .ph1ms
  | 4 => .ph10ms
  | 5 => .ph50ms

/-- The command that resets the counter of each bound index, its consumer (R33, R175), and its place in an iteration. -/
def consumerOf : Nat → Option (Instr × Fin 6)
  | 0 => some (.irStep, 1)
  | 1 => some (.phDisp, 2)
  | 2 => some (.ph1ms, 3)
  | 3 => some (.ph10ms, 4)
  | 4 => some (.ph50ms, 5)
  | 5 => some (.rfStep, 0)
  | _ + 6 => none

/-- The pin trace of bits shifted out, in order: the serial line, then a pulse of the shift clock (R207, R209). -/
def scanTrace (bits : List Bool) : List (Pin × Bool) :=
  bits.flatMap fun b => [(.dspSer, b), (.dspSrclk, true), (.dspSrclk, false)]

/-- The pin trace of one latch pulse (R207, R209). -/
def latchTrace : List (Pin × Bool) := [(.dspRclk, true), (.dspRclk, false)]

/-- The number four digits stand for when position p counts 0 .. m_p - 1 (R200). -/
def mixedValue (d m : Quad Byte) : Nat :=
  d.q0.toNat + m.q0.toNat * (d.q1.toNat + m.q1.toNat * (d.q2.toNat + m.q2.toNat * d.q3.toNat))

/-- The number of values of `mixedValue`. -/
def mixedSize (m : Quad Byte) : Nat := m.q0.toNat * (m.q1.toNat * (m.q2.toNat * m.q3.toNat))

/-- Every digit is below its maximum. -/
def digitsBelow (d m : Quad Byte) : Prop := d.q0 < m.q0 ∧ d.q1 < m.q1 ∧ d.q2 < m.q2 ∧ d.q3 < m.q3

/-- SYS_STATE is one in which the machine still works: BOOT or RUN. -/
def State.live (s : State) : Prop := s.sys = .boot ∨ s.sys = .run

/-- SYS_STATE is one after shutdown: SD_WAIT or HALTED. -/
def State.shutDown (s : State) : Prop := s.sys = .sdWait ∨ s.sys = .halted

/-- Every register of parametric width is in its width and every bounded register in its range (R8, R32, R38, R40,
R41, R43, R51), under a configuration that meets R8. -/
structure State.Sized (s : State) : Prop where
  config   : s.cfg.wf = true
  bank     : s.cnt.size ≤ 256
  counters : ∀ i v, s.cnt.get? i = some v → v < 2 ^ s.cfg.cntWidth
  setsel   : s.disp.setsel.toNat < s.cfg.numSettings
  frame    : s.disp.frame < 2 ^ s.cfg.frameBits
  shift    : s.disp.srShift < 2 ^ s.cfg.frameBits
  latch    : s.disp.srLatch < 2 ^ s.cfg.frameBits
  bitIdx   : s.disp.bitIdx.toNat ≤ s.cfg.frameBits + 1
  broken   : s.ir.broken.toNat ≤ s.cfg.brokenCeil.toNat

/-- The IR link's invariants: R263 (a) and (e), the output low after shutdown, and R264 for one channel. -/
structure State.LinkOk (s : State) : Prop where
  pulse      : s.live → (s.ir.outA = true ↔ s.ir.state = .pulse .a ∧ s.cfg.txEnableA = true)
  off        : s.shutDown → s.ir.outA = false
  lost       : s.ir.lostLatch = true → s.ir.peerConnected = false
  oneChannel : s.cfg.numChannels = 1 → s.ir.state ∉
    [IrState.idle .b, .waitHigh .b, .assert .b, .pulse .b, .guard .b, .waitNext .b]

/-- The radio's invariants, R312 (a), (b) and (d), with what they rest on: R8's bounds, a send only while SYS_STATE is
RUN, and a configured radio that is present. -/
structure State.RadioOk (s : State) : Prop where
  retryMax   : 1 ≤ s.cfg.retryMax.toNat
  failCeil   : s.cfg.failCeil.toNat ≤ 254
  present    : s.rf.configured = true → s.cfg.rfEnable = true
  busy       : s.rf.state ≠ .idle → s.rf.configured = true ∧ s.cfg.rfEnable = true ∧ s.sys = .run
  retry      : s.rf.state ≠ .idle → 1 ≤ s.rf.retry.toNat ∧ s.rf.retry.toNat ≤ s.cfg.retryMax.toNat
  reserved   : s.rf.pkt.extractLsb' 2 4 = 0
  fails      : s.rf.fails.toNat ≤ s.cfg.failCeil.toNat + 1
  exhausted  : s.rf.fails.toNat = s.cfg.failCeil.toNat + 1 → s.shutDown

/-- The clock pins are low between operations (R42) and the tick is enabled exactly in RUN (R35, R365, R370). -/
structure State.QuietOk (s : State) : Prop where
  srclk : s.disp.srclk = false
  rclk  : s.disp.rclk = false
  tick  : s.tickEn = true ↔ s.sys = .run

/-- The fault registers agree with each other (R90, R401, R403): no first fault exactly when no bit is set, the first
fault a code of R403 whose bit is set, and no bit above the fifth. -/
structure State.FaultsOk (s : State) : Prop where
  clear : s.flt.first = 0 ↔ s.flt.set = 0
  code  : s.flt.first.toNat ≤ 5
  bits  : s.flt.set.toNat < 32
  bit   : s.flt.first ≠ 0 → s.flt.set.getLsbD (s.flt.first.toNat - 1) = true

/-- Every invariant at once. -/
structure State.Inv (s : State) : Prop where
  sized  : s.Sized
  link   : s.LinkOk
  radio  : s.RadioOk
  quiet  : s.QuietOk
  faults : s.FaultsOk

end Sys2Proof.Machine
end

