-- ==== Sys2Proof/Certificates/Slice0/Obligations.lean ====
section
/-! DEFINITION. The statements for the provers, from the numbered rules of spec/. A result statement's conclusion is
`exec i s = .next { s with … }`: it says that the command completes, what it writes, and that it writes nothing else. A
sample takes its level and a transfer its answer from `env` (log 10, 11), so `env` changes there; no statement rests on
the value of a free draw. -/

open Sys2Proof Sys2Proof.Machine

/-! ### Encoding (30_encoding.md) -/

/-- The words of R139's examples, and one word a family from R131 and R134, decode to their commands. -/
def Obligations.WordsWrittenOutDecode : Prop :=
  decode 0x1304000000000EE2#64 = .ok (.cntChkrst 4 3810) ∧
  decode 0x2200000006000000#64 = .ok (.dispSet ⟨0, 6, 0, 0⟩) ∧
  decode 0x20000A0A0A0A0000#64 = .ok (.dispInc ⟨10, 10, 10, 10⟩) ∧
  decode 0x4102000000000000#64 = .ok (.rfSend true false) ∧
  decode 0x3105000000140000#64 = .ok (.irParams 5 20) ∧
  decode 0x0000000000000000#64 = .ok .nop ∧
  decode 0x5400000000000000#64 = .ok .ph50ms ∧
  decode 0x5F00000000000000#64 = .ok .boot

/-- No bit of an encoding is dropped: the word of a command decodes to the command, for every command and every value
of its operands (R131 to R134, R138). -/
def Obligations.DecodeOfEncodeIsTheCommand : Prop :=
  ∀ i : Instr, decode (encode i) = .ok i

/-- A word has at most one meaning and a command one word: what decodes is its own command's word (R137, R138). -/
def Obligations.EncodeOfDecodeIsTheWord : Prop :=
  ∀ (w : Word) (i : Instr), decode w = .ok i → encode i = w

/-- When a word is no command, and which of the two errors it is (R135, R138): an opcode that R134 does not list,
whatever its other bits, or a listed opcode with a bit outside its format's mask; a word is a command exactly when every
field that R132 marks 0 for its format is zero. -/
def Obligations.DecodeRejectsByName : Prop :=
  ∀ w : Word,
    (decode w = .error .illegalOpc ↔ ∀ fmt, (fieldOpc w, fmt) ∉ opcodeFormats) ∧
    (decode w = .error .reservedBits ↔ ∃ fmt, (fieldOpc w, fmt) ∈ opcodeFormats ∧ w &&& ~~~(fieldMask fmt) ≠ 0) ∧
    ((∃ i, decode w = .ok i) ↔ ∃ fmt, (fieldOpc w, fmt) ∈ opcodeFormats ∧ w &&& ~~~(fieldMask fmt) = 0) ∧
    ((∃ i, decode w = .ok i) ↔ ∃ fmt, (fieldOpc w, fmt) ∈ opcodeFormats ∧ reservedZero fmt w)

/-! ### Steps (00_scope.md R6, 30_encoding.md R130, 44_scheduler.md R349, 60_exceptions.md R401) -/

/-- When the HOST moves next, the port is served and the first word offered decodes to `i`, the step is exec of `i` on
the state from which the turn and the word are taken (R130, R138; whose turn it is, is the model's: log 6, 8). -/
def Obligations.StepRunsTheDecodedCommand : Prop :=
  ∀ (s : State) (w : Word) (rest : List Word) (i : Instr),
    s.nextAgent = .host → s.live → s.port = w :: rest → decode w = .ok i →
    step s = exec i { s with env := { s.env with turns := s.env.turns.tail, draws := s.env.draws + 1 },
                             port := rest }

/-- A word that is no command changes the fault registers alone (R135), with the code of its error and the word as the
information (R403); that the word leaves the port (log 8) and the turn is used up (log 6) is the model's. -/
def Obligations.WordThatIsNoCommandOnlyRecordsAFault : Prop :=
  ∀ (s : State) (w : Word) (rest : List Word) (e : DecodeError),
    s.nextAgent = .host → s.live → s.port = w :: rest → decode w = .error e →
    step s = .next { s with env := { s.env with turns := s.env.turns.tail, draws := s.env.draws + 1 },
                            port := rest,
                            flt := s.flt.record (match e with | .illegalOpc => 1 | .reservedBits => 2) w }

/-- `raise Fault(c, info)` (R401), for each code of R403: bit c-1 is set and no other bit changes; the code and the
information are recorded only if no fault was recorded before. -/
def Obligations.FaultIsRecorded : Prop :=
  ∀ (f : FaultRegs) (c : Nat) (info : Word), 1 ≤ c → c ≤ 5 →
    (∀ j, (f.record c info).set.getLsbD j = (decide (j = c - 1) || f.set.getLsbD j)) ∧
    (f.first = 0 → (f.record c info).first.toNat = c ∧ (f.record c info).info = info) ∧
    (f.first ≠ 0 → (f.record c info).first = f.first ∧ (f.record c info).info = f.info)

/-- The fault registers are sticky (R90, R401): no step clears a bit or changes a recorded first fault. -/
def Obligations.FaultRegistersAreSticky : Prop :=
  ∀ s t : State, step s = .next t →
    (∀ j, s.flt.set.getLsbD j = true → t.flt.set.getLsbD j = true) ∧
    (s.flt.first ≠ 0 → t.flt.first = s.flt.first ∧ t.flt.info = s.flt.info)

/-- The TIMER's step is TICK (R170); the FOREGROUND's step is BOOT in BOOT, SCHED.STEP in RUN, the release wait in
SD_WAIT, which halts and emits EV_HALT when the button is released (R360), and none in HALTED (R349). A command offered
in SD_WAIT or HALTED has no step (R130). The model's choices here are whose turn it is (log 6), that an agent without a
step only uses its turn up (log 7), and that the word then stays at the port (log 8). -/
def Obligations.AgentSteps : Prop :=
  ∀ s : State,
    let u := { s with env := { s.env with turns := s.env.turns.tail, draws := s.env.draws + 1 } }
    let e := (u.sampled .button).env
    (s.nextAgent = .timer → step s = exec .tick u) ∧
    (s.nextAgent = .foreground → s.sys = .boot → step s = exec .boot u) ∧
    (s.nextAgent = .foreground → s.sys = .run → step s = exec .schedStep u) ∧
    (s.nextAgent = .foreground → s.sys = .sdWait → u.level .button = true → step s = .next { s with env := e }) ∧
    (s.nextAgent = .foreground → s.sys = .sdWait → u.level .button = false → step s = .next
      { s with env := e, sys := .halted, out := { s.out with events := s.out.events ++ [.halt] } }) ∧
    (s.nextAgent = .foreground → s.sys = .halted → step s = .next u) ∧
    (s.nextAgent = .host → s.shutDown → step s = .next u)

/-! ### Counter bank (40_tick_counter_bank.md) -/

/-- TICK (R170, R178): with TICK_EN = 1 every counter advances by one modulo 2^CNT_WIDTH and nothing else changes; with
TICK_EN = 0 nothing changes. -/
def Obligations.TickAdvancesEveryCounter : Prop :=
  ∀ s : State,
    (s.tickEn = true → ∃ c : CounterBank, exec .tick s = .next { s with cnt := c } ∧ c.size = s.cnt.size ∧
      ∀ i, c.get? i = (s.cnt.get? i).map fun v => (v + 1) % 2 ^ s.cfg.cntWidth) ∧
    (s.tickEn = false → exec .tick s = .next s)

/-- CNT.RD (R171): the counter's value goes to RES; an index with no counter raises BAD_OPERAND and nothing else. -/
def Obligations.CounterRead : Prop :=
  ∀ (s : State) (i : Byte),
    (i.toNat < s.cnt.size → ∃ v, s.cnt.get? i.toNat = some v ∧
      exec (.cntRd i) s = .next { s with res := BitVec.ofNat 32 v }) ∧
    (s.cnt.size ≤ i.toNat → exec (.cntRd i) s = .next { s with flt := s.flt.record 3 (encode (.cntRd i)) })

/-- CNT.CLR (R172) and CNT.RDCLR (R173): the counter becomes 0 and the others keep their values; CNT.RDCLR puts the
value before the reset into RES in the same step. -/
def Obligations.CounterResets : Prop :=
  ∀ (s : State) (i : Byte),
    (i.toNat < s.cnt.size → ∃ (v : Nat) (c : CounterBank), s.cnt.get? i.toNat = some v ∧
      c.get? i.toNat = some 0 ∧ (∀ j, j ≠ i.toNat → c.get? j = s.cnt.get? j) ∧
      exec (.cntClr i) s = .next { s with cnt := c } ∧
      exec (.cntRdclr i) s = .next { s with res := BitVec.ofNat 32 v, cnt := c }) ∧
    (s.cnt.size ≤ i.toNat →
      exec (.cntClr i) s = .next { s with flt := s.flt.record 3 (encode (.cntClr i)) } ∧
      exec (.cntRdclr i) s = .next { s with flt := s.flt.record 3 (encode (.cntRdclr i)) })

/-- CNT.CHKRST (R174): at or past the threshold the counter becomes 0 and RES 1; below it RES becomes 0 alone. -/
def Obligations.CounterCheckAndReset : Prop :=
  ∀ (s : State) (i : Byte) (thr : Half),
    (i.toNat < s.cnt.size → ∃ (v : Nat) (c : CounterBank), s.cnt.get? i.toNat = some v ∧
      c.get? i.toNat = some 0 ∧ (∀ j, j ≠ i.toNat → c.get? j = s.cnt.get? j) ∧
      exec (.cntChkrst i thr) s =
        .next (if thr.toNat ≤ v then { s with cnt := c, res := 1 } else { s with res := 0 })) ∧
    (s.cnt.size ≤ i.toNat →
      exec (.cntChkrst i thr) s = .next { s with flt := s.flt.record 3 (encode (.cntChkrst i thr)) })

/-- R176: k ticks after its reset a counter holds k modulo 2^CNT_WIDTH, which CNT.RD then reads, and CNT.CHKRST finds
its threshold met exactly when that value has reached it (R174, and the wrap of R454). -/
def Obligations.CounterHoldsTheTicksSinceItsReset : Prop :=
  ∀ (s : State) (i : Byte) (k : Nat) (thr : Half), s.tickEn = true → i.toNat < s.cnt.size →
    (∃ t, execList ([.cntClr i] ++ List.replicate k .tick ++ [.cntRd i]) s = .next t ∧
      t.res = BitVec.ofNat 32 (k % 2 ^ s.cfg.cntWidth)) ∧
    (∃ t, execList ([.cntClr i] ++ List.replicate k .tick ++ [.cntChkrst i thr]) s = .next t ∧
      t.res = if thr.toNat ≤ k % 2 ^ s.cfg.cntWidth then 1 else 0)

/-- R34: a step leaves the counters alone, or ticks every counter while TICK_EN = 1, or resets one counter to 0. -/
def Obligations.CountersAreTickedOrReset : Prop :=
  ∀ s t : State, step s = .next t →
    t.cnt = s.cnt ∨
    (s.tickEn = true ∧ ∀ i, t.cnt.get? i = (s.cnt.get? i).map fun v => (v + 1) % 2 ^ s.cfg.cntWidth) ∨
    ∃ j, ∀ i, t.cnt.get? i = if i = j then (s.cnt.get? i).map fun _ => 0 else s.cnt.get? i

/-- R33, R175: of all commands only TICK, a counter command on that index and the consumer of a bound counter (alone or
as the scheduler's component step) change a counter. -/
def Obligations.CounterChangesOnlyByItsConsumer : Prop :=
  ∀ (i : Instr) (s t : State) (j : Nat), exec i s = .next t → t.cnt.get? j ≠ s.cnt.get? j →
    i = .tick ∨
    (∃ k : Byte, k.toNat = j ∧ (i = .cntClr k ∨ i = .cntRdclr k ∨ ∃ thr, i = .cntChkrst k thr)) ∨
    ∃ c p, consumerOf j = some (c, p) ∧ (i = c ∨ (i = .schedStep ∧ s.sys = .run ∧ s.iterPos = p))

/-! ### Digit display (41_digit_display.md) -/

/-- DISP.INC (R200), position by position: a position is incremented when every lower one wrapped, and wraps to 0 when
the incremented value reaches its maximum; RES tells whether position 3 wrapped. -/
def Obligations.DisplayIncrement : Prop :=
  ∀ (s : State) (m : Quad Byte),
    let d := s.disp.dig
    let w0 := decide (m.q0.toNat ≤ d.q0.toNat + 1)
    let w1 := w0 && decide (m.q1.toNat ≤ d.q1.toNat + 1)
    let w2 := w1 && decide (m.q2.toNat ≤ d.q2.toNat + 1)
    let w3 := w2 && decide (m.q3.toNat ≤ d.q3.toNat + 1)
    ∃ e : Quad Byte,
      exec (.dispInc m) s = .next { s with disp := { s.disp with dig := e, dirty := true },
                                           res := if w3 = true then 1 else 0 } ∧
      e.q0.toNat = (if w0 = true then 0 else d.q0.toNat + 1) ∧
      e.q1.toNat = (if w1 = true then 0 else if w0 = true then d.q1.toNat + 1 else d.q1.toNat) ∧
      e.q2.toNat = (if w2 = true then 0 else if w1 = true then d.q2.toNat + 1 else d.q2.toNat) ∧
      e.q3.toNat = (if w3 = true then 0 else if w2 = true then d.q3.toNat + 1 else d.q3.toNat)

/-- Counting with DISP.INC (R200): from digits below their maxima, n increments add n to the number that the digits
stand for in the mixed base of the maxima, modulo the number of its values, and the digits stay below their maxima. -/
def Obligations.DisplayCountsInItsBase : Prop :=
  ∀ (s : State) (m : Quad Byte) (n : Nat), digitsBelow s.disp.dig m →
    ∃ t, execList (List.replicate n (.dispInc m)) s = .next t ∧ digitsBelow t.disp.dig m ∧
      mixedValue t.disp.dig m = (mixedValue s.disp.dig m + n) % mixedSize m

/-- DISP.ZERO (R201), DISP.DIRTY (R202), DISP.SET (R203: DIRTY is not written), DISP.SETTINGS (R204: a slot that does
not exist raises BAD_OPERAND) and DISP.VALUE (R205). -/
def Obligations.DisplayRegisterCommands : Prop :=
  ∀ s : State,
    exec .dispZero s = .next { s with disp := { s.disp with dig := ⟨0, 0, 0, 0⟩, dirty := true } } ∧
    exec .dispDirty s = .next { s with disp := { s.disp with dirty := true } } ∧
    (∀ d, exec (.dispSet d) s = .next { s with disp := { s.disp with dig := d } }) ∧
    (∀ k, k.toNat < s.cfg.numSettings →
      exec (.dispSettings k) s = .next { s with disp := { s.disp with setsel := k } }) ∧
    (∀ k, s.cfg.numSettings ≤ k.toNat →
      exec (.dispSettings k) s = .next { s with flt := s.flt.record 3 (encode (.dispSettings k)) }) ∧
    ∃ v : Result, exec .dispValue s = .next { s with res := v } ∧
      v.toNat = s.disp.dig.q0.toNat + 10 * s.disp.dig.q1.toNat + 100 * s.disp.dig.q2.toNat +
        1000 * s.disp.dig.q3.toNat

/-- DISP.ADV (R207) with the shift register's action (R210): one bit of FRAME, or the latch pulse, or nothing. -/
def Obligations.DisplayAdvance : Prop :=
  ∀ s : State,
    let b := s.disp.frame.testBit s.disp.bitIdx.toNat
    (s.disp.bitIdx.toNat < s.cfg.frameBits → exec .dispAdv s = .next
      { s with disp := { s.disp with ser := b, srclk := false, bitIdx := s.disp.bitIdx + 1,
                                     srShift := (s.disp.srShift <<< 1 ||| b.toNat) % 2 ^ s.cfg.frameBits },
               out := { s.out with pins := s.out.pins ++ [(.dspSer, b), (.dspSrclk, true), (.dspSrclk, false)] } }) ∧
    (s.disp.bitIdx.toNat = s.cfg.frameBits → exec .dispAdv s = .next
      { s with disp := { s.disp with rclk := false, bitIdx := BitVec.ofNat 8 (s.cfg.frameBits + 1),
                                     srLatch := s.disp.srShift },
               out := { s.out with pins := s.out.pins ++ [(.dspRclk, true), (.dspRclk, false)] } }) ∧
    (s.cfg.frameBits < s.disp.bitIdx.toNat → exec .dispAdv s = .next s)

/-- DISP.RECOMP past its guard with digits 0 to 9 (R208, R206): FRAME becomes the frame of the digits, bit by bit the
always-on bit, or a position's segment unless its digit is 0 and suppressed, or its decimal point; DIRTY and BITIDX
become 0. -/
def Obligations.RecomputeBuildsTheFrame : Prop :=
  ∀ (s : State) (st : Settings) (v : Quad (Fin 10)), s.disp.dirty = true → s.cfg.frameBits < s.disp.bitIdx.toNat →
    slotOf s.cfg s.disp.setsel = some st →
    s.disp.dig.q0.toNat = v.q0 → s.disp.dig.q1.toNat = v.q1 → s.disp.dig.q2.toNat = v.q2 → s.disp.dig.q3.toNat = v.q3 →
    ∃ f : Nat,
      exec .dispRecomp s = .next { s with disp := { s.disp with frame := f, dirty := false, bitIdx := 0 } } ∧
      ∀ j, f.testBit j =
        (st.alwaysOn.testBit j ||
         (!(decide (v.q0 = 0) && st.suppress.q0) && s.cfg.segTable.q0[v.q0].testBit j) ||
         (st.dp.q0 && s.cfg.dpMask.q0.testBit j) ||
         (!(decide (v.q1 = 0) && st.suppress.q1) && s.cfg.segTable.q1[v.q1].testBit j) ||
         (st.dp.q1 && s.cfg.dpMask.q1.testBit j) ||
         (!(decide (v.q2 = 0) && st.suppress.q2) && s.cfg.segTable.q2[v.q2].testBit j) ||
         (st.dp.q2 && s.cfg.dpMask.q2.testBit j) ||
         (!(decide (v.q3 = 0) && st.suppress.q3) && s.cfg.segTable.q3[v.q3].testBit j) ||
         (st.dp.q3 && s.cfg.dpMask.q3.testBit j))

/-- DISP.RECOMP that fails its guard does nothing (R208); one that finds a digit above 9 records DIGIT_RANGE with the
lowest such position and writes nothing else (R206). -/
def Obligations.RecomputeGuardAndDigitRange : Prop :=
  ∀ s : State,
    let d := s.disp.dig
    ((s.disp.dirty = false ∨ s.disp.bitIdx.toNat ≤ s.cfg.frameBits) → exec .dispRecomp s = .next s) ∧
    (s.disp.dirty = true → s.cfg.frameBits < s.disp.bitIdx.toNat →
      (9 < d.q0.toNat →
        exec .dispRecomp s = .next { s with flt := s.flt.record 4 (BitVec.ofNat 64 (d.q0.toNat * 256)) }) ∧
      (d.q0.toNat ≤ 9 → 9 < d.q1.toNat →
        exec .dispRecomp s = .next { s with flt := s.flt.record 4 (BitVec.ofNat 64 (d.q1.toNat * 256 + 1)) }) ∧
      (d.q0.toNat ≤ 9 → d.q1.toNat ≤ 9 → 9 < d.q2.toNat →
        exec .dispRecomp s = .next { s with flt := s.flt.record 4 (BitVec.ofNat 64 (d.q2.toNat * 256 + 2)) }) ∧
      (d.q0.toNat ≤ 9 → d.q1.toNat ≤ 9 → d.q2.toNat ≤ 9 → 9 < d.q3.toNat →
        exec .dispRecomp s = .next { s with flt := s.flt.record 4 (BitVec.ofNat 64 (d.q3.toNat * 256 + 3)) }))

/-- R208's idempotence: a second DISP.RECOMP straight after the first changes nothing more, in every state. -/
def Obligations.RecomputeIsIdempotent : Prop :=
  ∀ s : State, execList [.dispRecomp, .dispRecomp] s = exec .dispRecomp s

/-- DISP.OFF (R209, R210): FRAME_BITS zero bits and one latch pulse, after which both registers of the shift register
are zero whatever they held. -/
def Obligations.DisplayOff : Prop :=
  ∀ s : State, 1 ≤ s.cfg.frameBits → exec .dispOff s = .next
    { s with disp := { s.disp with ser := false, srclk := false, rclk := false, srShift := 0, srLatch := 0,
                                   bitIdx := BitVec.ofNat 8 (s.cfg.frameBits + 1) },
             out := { s.out with
                        pins := s.out.pins ++ scanTrace (List.replicate s.cfg.frameBits false) ++ latchTrace } }

/-- A complete scan (R210, R212, R106): FRAME_BITS + 1 DISP.ADVs from BITIDX = 0 shift FRAME out bit 0 first, pulse the
latch once at the end, and leave FRAME reversed in SR_LATCH and SR_SHIFT, whatever they held before. -/
def Obligations.ScanLatchesTheReversedFrame : Prop :=
  ∀ s : State, s.disp.bitIdx = 0 → 1 ≤ s.cfg.frameBits → s.cfg.frameBits ≤ 254 →
    ∃ x : Nat, execList (List.replicate (s.cfg.frameBits + 1) .dispAdv) s = .next
        { s with disp := { s.disp with ser := s.disp.frame.testBit (s.cfg.frameBits - 1), srclk := false,
                                       rclk := false, srShift := x, srLatch := x,
                                       bitIdx := BitVec.ofNat 8 (s.cfg.frameBits + 1) },
                 out := { s.out with
                            pins := s.out.pins ++ scanTrace ((List.range s.cfg.frameBits).map s.disp.frame.testBit)
                              ++ latchTrace } } ∧
      x < 2 ^ s.cfg.frameBits ∧
      ∀ i, i < s.cfg.frameBits → x.testBit (s.cfg.frameBits - 1 - i) = s.disp.frame.testBit i

/-- No tearing (R211): no step of any agent writes FRAME while a scan is in progress (BITIDX at most FRAME_BITS), and a
step that writes it starts a scan of the frame it wrote (R40, R208). -/
def Obligations.FrameIsNotTorn : Prop :=
  ∀ s t : State, step s = .next t →
    (s.disp.bitIdx.toNat ≤ s.cfg.frameBits → t.disp.frame = s.disp.frame) ∧
    (t.disp.frame ≠ s.disp.frame → s.disp.dirty = true ∧ t.disp.dirty = false ∧ t.disp.bitIdx = 0)

/-! ### IR signal link (42_signal_link.md) -/

/-- Arms k_IDLE (R252) and k_WAIT_HIGH (R253) for both channels: the timeout is checked before the line. -/
def Obligations.LinkIdleAndWaitHigh : Prop :=
  ∀ (s : State) (k : Channel),
    let l := match k with | .a => Line.irInA | .b => Line.irInB
    let e := (s.sampled l).env
    (s.ir.state = .idle k → exec .irStep s = .next
      (if s.cfg.tTimeout ≤ s.cnt.ir then { s with env := e, ir := { s.ir with state := .error } }
       else if s.level l = false then { s with env := e, ir := { s.ir with state := .waitHigh k } }
       else { s with env := e })) ∧
    (s.ir.state = .waitHigh k → exec .irStep s = .next
      (if s.cfg.tTimeout ≤ s.cnt.ir then { s with env := e, ir := { s.ir with state := .error } }
       else if s.level l = true then
         { s with env := e, ir := { s.ir with state := .assert k }, cnt := { s.cnt with ir := 0 } }
       else { s with env := e }))

/-- Arms k_ASSERT (R254), k_PULSE (R255) and k_GUARD (R256) with the window ends of R251: channel A drives IR_OUT_A
when TX_ENABLE_A = 1, channel B never does; below the window's end nothing changes. -/
def Obligations.LinkWindows : Prop :=
  ∀ (s : State) (k : Channel),
    let tx := decide (k = .a) && s.cfg.txEnableA
    (s.ir.state = .assert k → exec .irStep s = .next
      (if s.cfg.tAssert ≤ s.cnt.ir then
         if tx = true then { s with ir := { s.ir with state := .pulse k, outA := true },
                                    out := { s.out with pins := s.out.pins ++ [(.irOutA, true)] } }
         else { s with ir := { s.ir with state := .pulse k } }
       else s)) ∧
    (s.ir.state = .pulse k → exec .irStep s = .next
      (if s.cfg.tAssert + s.cfg.tPulse ≤ s.cnt.ir then
         if tx = true then { s with ir := { s.ir with state := .guard k, outA := false },
                                    out := { s.out with pins := s.out.pins ++ [(.irOutA, false)] } }
         else { s with ir := { s.ir with state := .guard k } }
       else s)) ∧
    (s.ir.state = .guard k → exec .irStep s = .next
      (if s.cfg.tAssert + s.cfg.tPulse + s.cfg.tGuard ≤ s.cnt.ir then { s with ir := { s.ir with state := .waitNext k } }
       else s))

/-- Arm k_WAIT_NEXT (R257): channel A goes on to channel B when there are two channels, everything else that succeeds
is CONNECTED. -/
def Obligations.LinkWaitNext : Prop :=
  ∀ (s : State) (k : Channel), s.ir.state = .waitNext k →
    let l := match k with | .a => Line.irInA | .b => Line.irInB
    let e := (s.sampled l).env
    exec .irStep s = .next
      (if s.cfg.tTimeout ≤ s.cnt.ir then { s with env := e, ir := { s.ir with state := .error } }
       else if s.level l = true then { s with env := e }
       else if k = .a ∧ s.cfg.numChannels = 2 then
         { s with env := e, ir := { s.ir with state := .idle .b }, cnt := { s.cnt with ir := 0 } }
       else { s with env := e, ir := { s.ir with state := .connected } })

/-- Arm CONNECTED (R258), and IR.PARAMS (R262), which writes BROKEN_THRESH and IR_DELAY alone. -/
def Obligations.LinkConnectedAndParameters : Prop :=
  ∀ s : State,
    (s.ir.state = .connected → exec .irStep s = .next
      { s with ir := { s.ir with broken := 0, lostLatch := false, peerConnected := true, state := .idle .a },
               cnt := { s.cnt with ir := 0 },
               out := { s.out with events := s.out.events ++ [.connected] } }) ∧
    ∀ thresh delay : Byte, exec (.irParams thresh delay) s = .next
      { s with ir := { s.ir with brokenThresh := thresh, irDelay := delay } }

/-- Arm ERROR (R259) with the peer-lost check (R260): BROKEN saturates at its ceiling; the event fires at the threshold
when neither latched nor cooling down, and then requests sendPacket(0, 1), dropped unless R302 accepts it. -/
def Obligations.LinkError : Prop :=
  ∀ s : State, s.ir.state = .error →
    ∃ n : Byte, n.toNat = min (s.ir.broken.toNat + 1) s.cfg.brokenCeil.toNat ∧
      let ok := { s with ir := { s.ir with broken := n, state := .idle .a }, cnt := { s.cnt with ir := 0 } }
      let lost := { ok with ir := { ok.ir with lostLatch := true, peerConnected := false, cooldown := s.ir.irDelay },
                            out := { s.out with events := s.out.events ++ [.peerLost] } }
      exec .irStep s = .next
        (if s.ir.brokenThresh.toNat ≤ n.toNat ∧ s.ir.lostLatch = false ∧ s.ir.cooldown = 0 then
           if s.cfg.rfEnable = true ∧ s.cfg.sendOnPeerLost = true ∧ s.rf.configured = true ∧ s.sys = .run ∧
               s.rf.state = .idle then
             { lost with rf := { s.rf with pkt := BitVec.ofNat 8 (64 + s.rf.seq.toNat), seq := s.rf.seq + 1,
                                           retry := s.cfg.retryMax, timeout := 0, idleLink := 0, state := .txStart } }
           else lost
         else ok)

/-- A full detection cycle (R251 to R258, R264): with a low, a high and, after the three windows, a low on the line of
each channel, all of them used up, the machine is back in A_IDLE with CNT_IR = 0, has pulsed IR_OUT_A once if
TX_ENABLE_A = 1, has emitted EV_CONNECTED once and no other event, has cleared BROKEN and LOST_LATCH and set
PEER_CONNECTED. -/
def Obligations.LinkFullCycle : Prop :=
  ∀ (s : State) (rest : List (Line × Bool)),
    let ticks := fun n => List.replicate n Instr.tick
    let channel := [Instr.irStep, .irStep] ++ ticks s.cfg.tAssert ++ [.irStep] ++ ticks s.cfg.tPulse ++ [.irStep]
      ++ ticks s.cfg.tGuard ++ [.irStep, .irStep]
    let lineA : List (Line × Bool) := [(.irInA, false), (.irInA, true), (.irInA, false)]
    let lineB : List (Line × Bool) := [(.irInB, false), (.irInB, true), (.irInB, false)]
    let ends (t : State) : Prop :=
      t.ir = { s.ir with state := .idle .a, broken := 0, lostLatch := false, peerConnected := true,
                         outA := if s.cfg.txEnableA = true then false else s.ir.outA } ∧
      t.out = { s.out with pins := s.out.pins ++ (if s.cfg.txEnableA = true then [(.irOutA, true), (.irOutA, false)]
                                                  else []),
                           events := s.out.events ++ [.connected] } ∧
      t.cnt.ir = 0 ∧ t.env.levels = rest ∧ t.rf = s.rf ∧ t.disp = s.disp ∧ t.sys = s.sys ∧ t.flt = s.flt
    s.ir.state = .idle .a → s.cnt.ir < s.cfg.tTimeout → s.tickEn = true →
    s.cfg.wfWindows = true → s.cfg.tTimeout < 2 ^ s.cfg.cntWidth →
    (s.cfg.numChannels = 1 → s.env.levels = lineA ++ rest →
      ∃ t, execList (channel ++ [.irStep]) s = .next t ∧ ends t) ∧
    (s.cfg.numChannels = 2 → s.env.levels = lineA ++ lineB ++ rest →
      ∃ t, execList (channel ++ channel ++ [.irStep]) s = .next t ∧ ends t)

/-- A line that stays high (R252, R259): each round of T_TIMEOUT ticks and two IR steps returns to A_IDLE and adds
exactly 1 to BROKEN, up to its ceiling. -/
def Obligations.LinkTimeoutsAreCounted : Prop :=
  ∀ (s : State) (n : Nat) (rest : List (Line × Bool)),
    s.ir.state = .idle .a → s.cnt.ir = 0 → s.tickEn = true → s.cfg.tTimeout < 2 ^ s.cfg.cntWidth →
    s.ir.broken.toNat ≤ s.cfg.brokenCeil.toNat → s.env.levels = List.replicate n (.irInA, true) ++ rest →
    ∃ t, execList (List.replicate n (List.replicate s.cfg.tTimeout Instr.tick ++ [.irStep, .irStep])).flatten s = .next t ∧
      t.ir.state = .idle .a ∧ t.ir.broken.toNat = min (s.ir.broken.toNat + n) s.cfg.brokenCeil.toNat ∧
      t.cnt.ir = 0 ∧ t.env.levels = rest

/-- R51, R55, R56: BROKEN, LOST_LATCH and PEER_CONNECTED change only in an ERROR step, which adds 1 to BROKEN up to its
ceiling and may latch the loss, and in a CONNECTED step, which clears BROKEN and the latch and sets PEER_CONNECTED. -/
def Obligations.LinkStatusChangesOnlyInErrorAndConnected : Prop :=
  ∀ s t : State, step s = .next t →
    (t.ir.broken = s.ir.broken ∧ t.ir.lostLatch = s.ir.lostLatch ∧ t.ir.peerConnected = s.ir.peerConnected) ∨
    (s.ir.state = .error ∧ t.ir.state = .idle .a ∧
      t.ir.broken.toNat = min (s.ir.broken.toNat + 1) s.cfg.brokenCeil.toNat ∧
      ((t.ir.lostLatch = s.ir.lostLatch ∧ t.ir.peerConnected = s.ir.peerConnected ∧ t.out.events = s.out.events) ∨
       (s.ir.lostLatch = false ∧ t.ir.lostLatch = true ∧ t.ir.peerConnected = false ∧
         t.out.events = s.out.events ++ [.peerLost]))) ∨
    (s.ir.state = .connected ∧ t.ir.state = .idle .a ∧ t.ir.broken = 0 ∧ t.ir.lostLatch = false ∧
      t.ir.peerConnected = true ∧ t.out.events = s.out.events ++ [.connected])

/-- The IR link's invariants (R263 (a) and (e), R264, and IR_OUT_A low after Shutdown) are kept by every step. -/
def Obligations.StepKeepsTheLink : Prop :=
  ∀ s t : State, s.LinkOk → step s = .next t → t.LinkOk

/-! ### Radio link (43_radio_link.md) -/

/-- RF.CONFIG (R300, R301, R105): the configuration bytes, then each byte of FREQ after its header, most significant
first, then the calibrate byte, one transfer each; RF_CONFIGURED is set. A radio that is absent or configured already
raises BAD_STATE. -/
def Obligations.RadioConfiguration : Prop :=
  ∀ s : State,
    let F := s.cfg.targetFreq * 2 ^ 16 / (s.cfg.xtalFreq : Nat) % 2 ^ 24
    let bytes := s.cfg.rfConfigSeq ++ s.cfg.rfFreqHdr0 ++ [BitVec.ofNat 8 (F / 2 ^ 16)] ++
      s.cfg.rfFreqHdr1 ++ [BitVec.ofNat 8 (F / 2 ^ 8)] ++ s.cfg.rfFreqHdr2 ++ [BitVec.ofNat 8 F] ++ [s.cfg.rfCmdCal]
    (s.cfg.rfEnable = true → s.rf.configured = false →
      ∃ bus : List (Byte × Byte), bus.map Prod.fst = bytes ∧ exec .rfConfig s = .next
        { s with rf := { s.rf with configured := true },
                 out := { s.out with bus := s.out.bus ++ bus },
                 env := { s.env with answers := s.env.answers.drop bytes.length,
                                     draws := s.env.draws + bytes.length } }) ∧
    (s.cfg.rfEnable = false ∨ s.rf.configured = true →
      exec .rfConfig s = .next { s with flt := s.flt.record 5 (encode .rfConfig) })

/-- RF.SEND (R302): accepted only when the radio is present and configured, the machine runs and no send is in progress;
a dropped request writes RES alone. -/
def Obligations.RadioSend : Prop :=
  ∀ (s : State) (btn sig : Bool),
    exec (.rfSend btn sig) s = .next
      (if s.cfg.rfEnable = true ∧ s.rf.configured = true ∧ s.sys = .run ∧ s.rf.state = .idle then
         { s with rf := { s.rf with pkt := BitVec.ofNat 8 (btn.toNat * 128 + sig.toNat * 64 + s.rf.seq.toNat),
                                    seq := s.rf.seq + 1, retry := s.cfg.retryMax, timeout := 0, idleLink := 0,
                                    state := .txStart },
                  res := 1 }
       else { s with res := 0 })

/-- RF.STEP (R303) with no radio or no send does nothing; RF_TX_START writes the packet and starts it (R304); the
carrier arms wait for the status line, and the deassert starts the receive window (R305). -/
def Obligations.RadioSendsAndWaitsForTheCarrier : Prop :=
  ∀ s : State,
    ((s.cfg.rfEnable = false ∨ s.rf.state = .idle) → exec .rfStep s = .next s) ∧
    (s.cfg.rfEnable = true → (s.cfg.rfTimeout50ms = 0 ∨ s.rf.timeout.toNat < s.cfg.rfTimeout50ms.toNat) →
      (s.rf.state = .txStart → ∃ a b c : Byte, exec .rfStep s = .next
        { s with rf := { s.rf with state := .waitCarrierAssert },
                 out := { s.out with
                            bus := s.out.bus ++ [(s.cfg.rfCmdTxfifo, a), (s.rf.pkt, b), (s.cfg.rfCmdStx, c)] },
                 env := { s.env with answers := s.env.answers.drop 3, draws := s.env.draws + 3 } }) ∧
      (s.rf.state = .waitCarrierAssert → exec .rfStep s = .next
        (if s.level .rfCarrier = true then
           { s with rf := { s.rf with state := .waitCarrierDeassert }, env := (s.sampled .rfCarrier).env }
         else { s with env := (s.sampled .rfCarrier).env })) ∧
      (s.rf.state = .waitCarrierDeassert → exec .rfStep s = .next
        (if s.level .rfCarrier = true then { s with env := (s.sampled .rfCarrier).env }
         else { s with rf := { s.rf with state := .waitAck }, cnt := { s.cnt with rfWin := 0 },
                       env := (s.sampled .rfCarrier).env })))

/-- RF_WAIT_ACK with the acknowledgment line asserted (R306): the receive buffer is read, even if the window has
elapsed; its byte gives BROKEN_THRESH and IR_DELAY through ACK_DECODE, FAILS is cleared, EV_RF_ACK is emitted and the
machine is idle. By default ACK_DECODE splits the byte into its nibbles (R309; the parameter as data is log 15). -/
def Obligations.RadioAcknowledged : Prop :=
  ∀ s : State, s.cfg.rfEnable = true → s.rf.state = .waitAck →
    (s.cfg.rfTimeout50ms = 0 ∨ s.rf.timeout.toNat < s.cfg.rfTimeout50ms.toNat) → s.level .rfAck = true →
    let u := s.sampled .rfAck
    let b := (u.busXfer s.cfg.rfCmdRxfifo).answer
    exec .rfStep s = .next
      { s with rf := { s.rf with ackByte := b, fails := 0, state := .idle },
               ir := { s.ir with brokenThresh := (ackDecode s.cfg b).1, irDelay := (ackDecode s.cfg b).2 },
               out := { s.out with bus := s.out.bus ++ [(s.cfg.rfCmdRxfifo, u.answer), (s.cfg.rfDummy, b)],
                                   events := s.out.events ++ [.rfAck] },
               env := { u.env with answers := u.env.answers.drop 2, draws := u.env.draws + 2 } } ∧
    (∀ a₀ a₁ rest, s.env.answers = a₀ :: a₁ :: rest → b = a₁) ∧
    (s.cfg.ackOverrides = [] →
      (ackDecode s.cfg b).1.toNat = b.toNat / 16 ∧ (ackDecode s.cfg b).2.toNat = b.toNat % 16)

/-- RF_WAIT_ACK without an acknowledgment (R306): inside the window nothing happens; at its end RETRY is decremented,
and while it is not 0 the transmit-start command alone is sent again. -/
def Obligations.RadioRetransmits : Prop :=
  ∀ s : State, s.cfg.rfEnable = true → s.rf.state = .waitAck →
    (s.cfg.rfTimeout50ms = 0 ∨ s.rf.timeout.toNat < s.cfg.rfTimeout50ms.toNat) → s.level .rfAck = false →
    let u := s.sampled .rfAck
    (s.cnt.rfWin < s.cfg.rfAckWindow → exec .rfStep s = .next { s with env := u.env }) ∧
    (s.cfg.rfAckWindow ≤ s.cnt.rfWin → 2 ≤ s.rf.retry.toNat → exec .rfStep s = .next
      { s with rf := { s.rf with retry := s.rf.retry - 1, state := .waitCarrierAssert },
               out := { s.out with bus := s.out.bus ++ [(s.cfg.rfCmdStx, u.answer)] },
               env := { u.env with answers := u.env.answers.tail, draws := u.env.draws + 1 } })

/-- `exhausted()` (R308), at the last window's end (R306) and at the overall timeout, which is checked first (R303):
FAILS advances by 1, EV_RF_FAIL is emitted, the machine is idle, and above the ceiling the shutdown sequence follows. -/
def Obligations.RadioExhausted : Prop :=
  ∀ s : State, s.cfg.rfEnable = true → s.rf.fails.toNat ≤ s.cfg.failCeil.toNat → s.cfg.failCeil.toNat ≤ 254 →
    (s.cfg.rfTimeout50ms ≠ 0 → s.cfg.rfTimeout50ms.toNat ≤ s.rf.timeout.toNat → s.rf.state ≠ .idle →
      let t := { s with rf := { s.rf with fails := s.rf.fails + 1, state := .idle },
                        out := { s.out with events := s.out.events ++ [.rfFail] } }
      exec .rfStep s = if s.rf.fails.toNat = s.cfg.failCeil.toNat then exec .shutdown t else .next t) ∧
    ((s.cfg.rfTimeout50ms = 0 ∨ s.rf.timeout.toNat < s.cfg.rfTimeout50ms.toNat) → s.rf.state = .waitAck →
      s.level .rfAck = false → s.cfg.rfAckWindow ≤ s.cnt.rfWin → s.rf.retry = 1 →
      let t := { s with rf := { s.rf with retry := 0, fails := s.rf.fails + 1, state := .idle },
                        out := { s.out with events := s.out.events ++ [.rfFail] },
                        env := (s.sampled .rfAck).env }
      exec .rfStep s = if s.rf.fails.toNat = s.cfg.failCeil.toNat then exec .shutdown t else .next t)

/-- Transmission count (R311): an accepted request whose acknowledgment never comes, with a carrier that asserts and
deasserts and no overall timeout, puts TXFIFO, PKT, STX and then RETRY_MAX - 1 further STX on the bus, and adds exactly
1 to FAILS. -/
def Obligations.RadioTransmissionCount : Prop :=
  ∀ (s : State) (btn sig : Bool) (rest : List (Line × Bool)),
    let round := [Instr.rfStep, .rfStep] ++ List.replicate s.cfg.rfAckWindow Instr.tick ++ [.rfStep]
    let levels : List (Line × Bool) := [(.rfCarrier, true), (.rfCarrier, false), (.rfAck, false)]
    s.cfg.rfEnable = true → s.rf.configured = true → s.sys = .run → s.rf.state = .idle → s.tickEn = true →
    s.cfg.rfTimeout50ms = 0 → s.cfg.rfAckWindow < 2 ^ s.cfg.cntWidth → 1 ≤ s.cfg.retryMax.toNat →
    s.rf.fails.toNat < s.cfg.failCeil.toNat →
    s.env.levels = (List.replicate s.cfg.retryMax.toNat levels).flatten ++ rest →
    ∃ t, execList ([.rfSend btn sig, .rfStep] ++ (List.replicate s.cfg.retryMax.toNat round).flatten) s = .next t ∧
      t.out.bus.map Prod.fst = s.out.bus.map Prod.fst ++
        [s.cfg.rfCmdTxfifo, BitVec.ofNat 8 (btn.toNat * 128 + sig.toNat * 64 + s.rf.seq.toNat), s.cfg.rfCmdStx] ++
        List.replicate (s.cfg.retryMax.toNat - 1) s.cfg.rfCmdStx ∧
      t.rf.fails.toNat = s.rf.fails.toNat + 1 ∧ t.rf.state = .idle ∧ t.rf.retry = 0 ∧
      t.out.events = s.out.events ++ [.rfFail] ∧ t.env.levels = rest

/-- R312 (e): a step changes FAILS only by adding 1 with EV_RF_FAIL, or by clearing it with EV_RF_ACK. -/
def Obligations.FailuresClearedOnlyByAnAcknowledgment : Prop :=
  ∀ s t : State, step s = .next t → t.rf.fails ≠ s.rf.fails →
    (t.rf.fails = s.rf.fails + 1 ∧ .rfFail ∈ t.out.events.drop s.out.events.length ∧ t.rf.state = .idle) ∨
    (t.rf.fails = 0 ∧ t.out.events = s.out.events ++ [.rfAck] ∧ s.rf.state = .waitAck ∧ t.rf.state = .idle)

/-- R61, R312 (c): SEQ and PKT change only when a request is accepted, which takes the machine from RF_IDLE to RF_TX_START
with RETRY_MAX retries, while RUN and configured (R302). -/
def Obligations.SequenceAdvancesOnlyWithAnAcceptedRequest : Prop :=
  ∀ s t : State, step s = .next t →
    (t.rf.seq = s.rf.seq ∧ t.rf.pkt = s.rf.pkt) ∨
    (t.rf.seq = s.rf.seq + 1 ∧ t.rf.pkt.extractLsb' 0 2 = s.rf.seq ∧ t.rf.retry = s.cfg.retryMax ∧
      s.rf.state = .idle ∧ t.rf.state = .txStart ∧ s.rf.configured = true ∧ s.sys = .run)

/-- The radio's invariants (R312 (a), (b) and (d)) are kept by every step. -/
def Obligations.StepKeepsTheRadio : Prop :=
  ∀ s t : State, s.RadioOk → step s = .next t → t.RadioOk

/-! ### Scheduler, shutdown and boot (44_scheduler.md) -/

/-- SCHED.STEP (R350): in RUN the component command at ITER_POS, and ITER_POS advances modulo 6; otherwise nothing. -/
def Obligations.SchedulerStep : Prop :=
  ∀ s : State,
    (s.sys = .run → ∃ t, exec (componentCommand s.iterPos) s = .next t ∧ ∃ p : Fin 6,
      p.val = (s.iterPos.val + 1) % 6 ∧ exec .schedStep s = .next { t with iterPos := p }) ∧
    (s.sys ≠ .run → exec .schedStep s = .next s)

/-- R373 under the fairness of R119: in a fair run that stays in RUN every component step (R350), each of the six, is
taken again and again, by the FOREGROUND or by a SCHED.STEP of the HOST (whose turn it is, is the model's: log 6). -/
def Obligations.FairRunsTakeEveryComponentStep : Prop :=
  ∀ x : Nat → State, IsRun x → Fair x → ∀ (p : Fin 6) (n : Nat), ∃ m, n ≤ m ∧
    ((x m).sys ≠ .run ∨
     ((x m).iterPos = p ∧ ∃ u t env port, (u = (x m).turnTaken ∨ u = (x m).turnTaken.accepted) ∧
       exec (componentCommand p) u = .next t ∧ x (m + 1) = { t with iterPos := p + 1, env := env, port := port }))

/-- PH.DISP (R352) and PH.1MS (R353): nothing below the threshold; at it the phase's counter is reset and its action
follows. -/
def Obligations.DisplayAnd1msPhases : Prop :=
  ∀ s : State,
    (s.cnt.disp < s.cfg.dispBitThresh → exec .phDisp s = .next s) ∧
    (s.cfg.dispBitThresh ≤ s.cnt.disp → ∃ t, exec .dispAdv { s with cnt := { s.cnt with disp := 0 } } = .next t ∧
      exec .phDisp s = .next t) ∧
    (s.cnt.ms1 < s.cfg.t1ms → exec .ph1ms s = .next s) ∧
    (s.cfg.t1ms ≤ s.cnt.ms1 → exec .ph1ms s = .next
      { s with cnt := { s.cnt with ms1 := 0 }, out := { s.out with events := s.out.events ++ [.ms1] } })

/-- PH.10MS (R354): EV_10MS, one sample of the button, EV_BUTTON at the first pressed sample, a saturating hold count,
and the shutdown sequence when it reaches the threshold. -/
def Obligations.TenMillisecondPhase : Prop :=
  ∀ s : State,
    let e := (s.sampled .button).env
    let c := { s.cnt with ms10 := 0 }
    (s.cnt.ms10 < s.cfg.t10ms → exec .ph10ms s = .next s) ∧
    (s.cfg.t10ms ≤ s.cnt.ms10 → s.level .button = false → exec .ph10ms s = .next
      { s with cnt := c, env := e, btnHold := 0, out := { s.out with events := s.out.events ++ [.ms10] } }) ∧
    (s.cfg.t10ms ≤ s.cnt.ms10 → s.level .button = true → ∃ n : Half, n.toNat = min (s.btnHold.toNat + 1) 0xFFFF ∧
      let t := { s with cnt := c, env := e, btnHold := n,
                        out := { s.out with events := s.out.events ++
                                   (if s.btnHold = 0 then [.ms10, .button] else [.ms10]) } }
      exec .ph10ms s = if s.cfg.btnHoldThresh.toNat ≤ n.toNat then exec .shutdown t else .next t)

/-- PH.50MS (R356, with R307, R310 and R402): a cutoff shuts down and nothing else of the phase runs; otherwise the
recompute, whose fault ends only the recompute, then the cooldown, the send's overall timeout counter and the heartbeat,
which sends when it is due and R302 accepts it. -/
def Obligations.FiftyMillisecondPhase : Prop :=
  ∀ s : State,
    let u := { s with cnt := { s.cnt with ms50 := 0 }, env := (s.sampled .vCutoff).env }
    (s.cnt.ms50 < s.cfg.t50ms → exec .ph50ms s = .next s) ∧
    (s.cfg.t50ms ≤ s.cnt.ms50 → s.level .vCutoff = true → exec .ph50ms s = exec .shutdown u) ∧
    (s.cfg.t50ms ≤ s.cnt.ms50 → s.level .vCutoff = false →
      ∃ (v : State) (cool elapsed : Byte) (idle : Half), exec .dispRecomp u = .next v ∧
        cool.toNat = s.ir.cooldown.toNat - 1 ∧
        elapsed.toNat = (if s.rf.state = .idle then s.rf.timeout.toNat else min (s.rf.timeout.toNat + 1) 255) ∧
        idle.toNat = min (s.rf.idleLink.toNat + 1) 0xFFFF ∧
        let t := { v with ir := { s.ir with cooldown := cool } }
        exec .ph50ms s = .next
          (if s.cfg.rfEnable = false then t
           else if s.cfg.heartbeat50ms.toNat ≤ idle.toNat ∧ s.rf.state = .idle ∧ s.rf.configured = true ∧
               s.sys = .run then
             { t with rf := { s.rf with pkt := BitVec.ofNat 8 s.rf.seq.toNat, seq := s.rf.seq + 1,
                                        retry := s.cfg.retryMax, timeout := 0, idleLink := 0, state := .txStart } }
           else { t with rf := { s.rf with timeout := elapsed, idleLink := idle } }))

/-- SHUTDOWN (R367) and the shutdown sequence (R365): the tick off, IR_OUT_A low, the display blanked, the radio idle,
SD_WAIT and EV_SHUTDOWN; every other register keeps its value. In SD_WAIT and HALTED it does nothing. -/
def Obligations.ShutdownSequence : Prop :=
  ∀ s : State,
    (s.live → 1 ≤ s.cfg.frameBits → exec .shutdown s = .next
      { s with tickEn := false, ir := { s.ir with outA := false },
               disp := { s.disp with ser := false, srclk := false, rclk := false, srShift := 0, srLatch := 0,
                                     bitIdx := BitVec.ofNat 8 (s.cfg.frameBits + 1) },
               rf := { s.rf with state := .idle }, sys := .sdWait,
               out := { s.out with
                          pins := s.out.pins ++ [(.irOutA, false)] ++
                            scanTrace (List.replicate s.cfg.frameBits false) ++ latchTrace,
                          events := s.out.events ++ [.shutdown] } }) ∧
    (s.shutDown → exec .shutdown s = .next s)

/-- BOOT (R370): the radio is configured first if it is present and not configured, then the tick is enabled and the
machine runs; outside BOOT it raises BAD_STATE. NOP (R371): nothing. -/
def Obligations.BootAndNop : Prop :=
  ∀ s : State,
    (s.sys = .boot → s.cfg.rfEnable = true → s.rf.configured = false → ∃ t, exec .rfConfig s = .next t ∧
      t.rf.configured = true ∧ exec .boot s = .next { t with tickEn := true, sys := .run }) ∧
    (s.sys = .boot → s.cfg.rfEnable = false ∨ s.rf.configured = true →
      exec .boot s = .next { s with tickEn := true, sys := .run }) ∧
    (s.sys ≠ .boot → exec .boot s = .next { s with flt := s.flt.record 5 (encode .boot) }) ∧
    exec .nop s = .next s

/-- R366: after Shutdown only the release wait does anything: it may halt the machine and emit EV_HALT; HALTED is left
by nothing. Stated for states in which the tick is enabled exactly in RUN (R35; StepKeepsPinsTickAndFaults). The model's
choices here are whose turn it is (log 6), that an agent without a step only uses its turn up (log 7), and that a word
that is not served stays at the port (log 8). -/
def Obligations.OnlyTheReleaseWaitAfterShutdown : Prop :=
  ∀ s t : State, s.QuietOk → s.shutDown → step s = .next t →
    t = { s with env := t.env } ∨
    (s.sys = .sdWait ∧ s.nextAgent = .foreground ∧
      t = { s with env := t.env, sys := .halted, out := { s.out with events := s.out.events ++ [.halt] } })

/-- R405, R365, R80: SYS_STATE changes only from BOOT to RUN, from BOOT or RUN to SD_WAIT and from SD_WAIT to HALTED, and
every way into SD_WAIT has blanked the display, driven IR_OUT_A low, disabled the tick and left the radio idle. -/
def Obligations.EveryExitClearsTheOutputs : Prop :=
  ∀ s t : State, 1 ≤ s.cfg.frameBits → step s = .next t → t.sys ≠ s.sys →
    (s.sys = .boot ∧ t.sys = .run ∧ t.tickEn = true) ∨
    (s.live ∧ t.sys = .sdWait ∧ t.tickEn = false ∧ t.ir.outA = false ∧ t.disp.srLatch = 0 ∧ t.disp.ser = false ∧
      t.rf.state = .idle ∧ ∃ before, t.out.events = s.out.events ++ before ++ [.shutdown]) ∨
    (s.sys = .sdWait ∧ t.sys = .halted)

/-! ### The whole machine -/

/-- R136, R70: RES changes only in a step in which the HOST executes one of the six commands that return a value. -/
def Obligations.OnlySixCommandsWriteTheResult : Prop :=
  ∀ s t : State, step s = .next t → t.res ≠ s.res →
    s.nextAgent = .host ∧ ∃ w rest i, s.port = w :: rest ∧ decode w = .ok i ∧ writesResult i = true

/-- R12, R450: the pin, bus and event traces are only appended to, and no step writes a parameter or a table. -/
def Obligations.TracesOnlyGrowAndParametersStay : Prop :=
  ∀ s t : State, step s = .next t →
    t.cfg = s.cfg ∧ ∃ pins bus events,
      t.out = { pins := s.out.pins ++ pins, bus := s.out.bus ++ bus, events := s.out.events ++ events }

/-- The reset values of R450 at power-on; SR_SHIFT and SR_LATCH are left open but for their width (R43). -/
def Obligations.ResetValues : Prop :=
  let s := State.reset
  (∀ i, i < 6 → s.cnt.get? i = some 0) ∧ s.tickEn = false ∧
  s.disp.dig = ⟨0, 0, 0, 0⟩ ∧ s.disp.dirty = true ∧ s.disp.setsel = 0 ∧ s.disp.frame = 0 ∧
  s.disp.bitIdx.toNat = s.cfg.frameBits + 1 ∧ s.disp.ser = false ∧ s.disp.srclk = false ∧ s.disp.rclk = false ∧
  s.disp.srShift < 2 ^ s.cfg.frameBits ∧ s.disp.srLatch < 2 ^ s.cfg.frameBits ∧
  s.ir = { state := .idle .a, broken := 0, brokenThresh := 3, irDelay := 0, cooldown := 0, lostLatch := false,
           peerConnected := false, outA := false } ∧
  s.rf = { state := .idle, seq := 0, pkt := 0, retry := 0, timeout := 0, fails := 0, idleLink := 0, ackByte := 0,
           configured := false } ∧
  s.res = 0 ∧ s.sys = .boot ∧ s.btnHold = 0 ∧ s.iterPos = 0 ∧ s.flt = { set := 0, first := 0, info := 0 }

/-- Every invariant holds after reset, for the default parameters and for every configuration that meets R8. -/
def Obligations.ResetMeetsTheInvariants : Prop :=
  State.reset.Inv ∧
  ∀ (c : Config) (spares shift latch : Nat), c.wf = true → spares ≤ 250 → (State.resetWith c spares shift latch).Inv

/-- Every register stays in its width and range (R32, R38, R40, R41, R43, R51, R263 (b)), by every step. -/
def Obligations.StepKeepsTheRegistersInRange : Prop :=
  ∀ s t : State, s.Sized → step s = .next t → t.Sized

/-- The clock pins are low between steps (R42), the tick is enabled exactly in RUN (R35, R365, R370), and the fault
registers agree with each other (R401, R403): kept by every step. -/
def Obligations.StepKeepsPinsTickAndFaults : Prop :=
  ∀ s t : State, s.QuietOk → s.FaultsOk → step s = .next t → t.QuietOk ∧ t.FaultsOk
end

