-- ==== Sys2Proof/Laws/State.lean ====
section
/-! SUPPORT. One lemma a field of State for each named update, so that no later proof unfolds one. -/

namespace Sys2Proof.Laws

open Sys2Proof.Machine

variable (s : State)

/-! ### clearCounter -/

@[simp] theorem clearCounter_cfg (i : Nat) : (s.clearCounter i).cfg = s.cfg := rfl
@[simp] theorem clearCounter_cnt (i : Nat) : (s.clearCounter i).cnt = s.cnt.clear i := rfl
@[simp] theorem clearCounter_tickEn (i : Nat) : (s.clearCounter i).tickEn = s.tickEn := rfl
@[simp] theorem clearCounter_disp (i : Nat) : (s.clearCounter i).disp = s.disp := rfl
@[simp] theorem clearCounter_ir (i : Nat) : (s.clearCounter i).ir = s.ir := rfl
@[simp] theorem clearCounter_rf (i : Nat) : (s.clearCounter i).rf = s.rf := rfl
@[simp] theorem clearCounter_res (i : Nat) : (s.clearCounter i).res = s.res := rfl
@[simp] theorem clearCounter_sys (i : Nat) : (s.clearCounter i).sys = s.sys := rfl
@[simp] theorem clearCounter_btnHold (i : Nat) : (s.clearCounter i).btnHold = s.btnHold := rfl
@[simp] theorem clearCounter_iterPos (i : Nat) : (s.clearCounter i).iterPos = s.iterPos := rfl
@[simp] theorem clearCounter_flt (i : Nat) : (s.clearCounter i).flt = s.flt := rfl
@[simp] theorem clearCounter_out (i : Nat) : (s.clearCounter i).out = s.out := rfl
@[simp] theorem clearCounter_env (i : Nat) : (s.clearCounter i).env = s.env := rfl
@[simp] theorem clearCounter_port (i : Nat) : (s.clearCounter i).port = s.port := rfl

/-! ### setRes -/

@[simp] theorem setRes_cfg (v : Result) : (s.setRes v).cfg = s.cfg := rfl
@[simp] theorem setRes_cnt (v : Result) : (s.setRes v).cnt = s.cnt := rfl
@[simp] theorem setRes_tickEn (v : Result) : (s.setRes v).tickEn = s.tickEn := rfl
@[simp] theorem setRes_disp (v : Result) : (s.setRes v).disp = s.disp := rfl
@[simp] theorem setRes_ir (v : Result) : (s.setRes v).ir = s.ir := rfl
@[simp] theorem setRes_rf (v : Result) : (s.setRes v).rf = s.rf := rfl
@[simp] theorem setRes_res (v : Result) : (s.setRes v).res = v := rfl
@[simp] theorem setRes_sys (v : Result) : (s.setRes v).sys = s.sys := rfl
@[simp] theorem setRes_btnHold (v : Result) : (s.setRes v).btnHold = s.btnHold := rfl
@[simp] theorem setRes_iterPos (v : Result) : (s.setRes v).iterPos = s.iterPos := rfl
@[simp] theorem setRes_flt (v : Result) : (s.setRes v).flt = s.flt := rfl
@[simp] theorem setRes_out (v : Result) : (s.setRes v).out = s.out := rfl
@[simp] theorem setRes_env (v : Result) : (s.setRes v).env = s.env := rfl
@[simp] theorem setRes_port (v : Result) : (s.setRes v).port = s.port := rfl

/-! ### emit -/

@[simp] theorem emit_cfg (e : Event) : (s.emit e).cfg = s.cfg := rfl
@[simp] theorem emit_cnt (e : Event) : (s.emit e).cnt = s.cnt := rfl
@[simp] theorem emit_tickEn (e : Event) : (s.emit e).tickEn = s.tickEn := rfl
@[simp] theorem emit_disp (e : Event) : (s.emit e).disp = s.disp := rfl
@[simp] theorem emit_ir (e : Event) : (s.emit e).ir = s.ir := rfl
@[simp] theorem emit_rf (e : Event) : (s.emit e).rf = s.rf := rfl
@[simp] theorem emit_res (e : Event) : (s.emit e).res = s.res := rfl
@[simp] theorem emit_sys (e : Event) : (s.emit e).sys = s.sys := rfl
@[simp] theorem emit_btnHold (e : Event) : (s.emit e).btnHold = s.btnHold := rfl
@[simp] theorem emit_iterPos (e : Event) : (s.emit e).iterPos = s.iterPos := rfl
@[simp] theorem emit_flt (e : Event) : (s.emit e).flt = s.flt := rfl
@[simp] theorem emit_out (e : Event) : (s.emit e).out = { s.out with events := s.out.events ++ [e] } := rfl
@[simp] theorem emit_env (e : Event) : (s.emit e).env = s.env := rfl
@[simp] theorem emit_port (e : Event) : (s.emit e).port = s.port := rfl

/-! ### raiseFault -/

@[simp] theorem raiseFault_cfg (c : Cause) (info : Word) : (s.raiseFault c info).cfg = s.cfg := rfl
@[simp] theorem raiseFault_cnt (c : Cause) (info : Word) : (s.raiseFault c info).cnt = s.cnt := rfl
@[simp] theorem raiseFault_tickEn (c : Cause) (info : Word) : (s.raiseFault c info).tickEn = s.tickEn := rfl
@[simp] theorem raiseFault_disp (c : Cause) (info : Word) : (s.raiseFault c info).disp = s.disp := rfl
@[simp] theorem raiseFault_ir (c : Cause) (info : Word) : (s.raiseFault c info).ir = s.ir := rfl
@[simp] theorem raiseFault_rf (c : Cause) (info : Word) : (s.raiseFault c info).rf = s.rf := rfl
@[simp] theorem raiseFault_res (c : Cause) (info : Word) : (s.raiseFault c info).res = s.res := rfl
@[simp] theorem raiseFault_sys (c : Cause) (info : Word) : (s.raiseFault c info).sys = s.sys := rfl
@[simp] theorem raiseFault_btnHold (c : Cause) (info : Word) : (s.raiseFault c info).btnHold = s.btnHold := rfl
@[simp] theorem raiseFault_iterPos (c : Cause) (info : Word) : (s.raiseFault c info).iterPos = s.iterPos := rfl
@[simp] theorem raiseFault_flt (c : Cause) (info : Word) : (s.raiseFault c info).flt = s.flt.record c.code info := rfl
@[simp] theorem raiseFault_out (c : Cause) (info : Word) : (s.raiseFault c info).out = s.out := rfl
@[simp] theorem raiseFault_env (c : Cause) (info : Word) : (s.raiseFault c info).env = s.env := rfl
@[simp] theorem raiseFault_port (c : Cause) (info : Word) : (s.raiseFault c info).port = s.port := rfl

/-! ### sampled -/

@[simp] theorem sampled_cfg (l : Line) : (s.sampled l).cfg = s.cfg := rfl
@[simp] theorem sampled_cnt (l : Line) : (s.sampled l).cnt = s.cnt := rfl
@[simp] theorem sampled_tickEn (l : Line) : (s.sampled l).tickEn = s.tickEn := rfl
@[simp] theorem sampled_disp (l : Line) : (s.sampled l).disp = s.disp := rfl
@[simp] theorem sampled_ir (l : Line) : (s.sampled l).ir = s.ir := rfl
@[simp] theorem sampled_rf (l : Line) : (s.sampled l).rf = s.rf := rfl
@[simp] theorem sampled_res (l : Line) : (s.sampled l).res = s.res := rfl
@[simp] theorem sampled_sys (l : Line) : (s.sampled l).sys = s.sys := rfl
@[simp] theorem sampled_btnHold (l : Line) : (s.sampled l).btnHold = s.btnHold := rfl
@[simp] theorem sampled_iterPos (l : Line) : (s.sampled l).iterPos = s.iterPos := rfl
@[simp] theorem sampled_flt (l : Line) : (s.sampled l).flt = s.flt := rfl
@[simp] theorem sampled_out (l : Line) : (s.sampled l).out = s.out := rfl
@[simp] theorem sampled_env (l : Line) :
    (s.sampled l).env = { s.env with levels := dropLevel l s.env.levels, draws := s.env.draws + 1 } := rfl
@[simp] theorem sampled_port (l : Line) : (s.sampled l).port = s.port := rfl

/-! ### busXfer -/

@[simp] theorem busXfer_cfg (b : Byte) : (s.busXfer b).cfg = s.cfg := rfl
@[simp] theorem busXfer_cnt (b : Byte) : (s.busXfer b).cnt = s.cnt := rfl
@[simp] theorem busXfer_tickEn (b : Byte) : (s.busXfer b).tickEn = s.tickEn := rfl
@[simp] theorem busXfer_disp (b : Byte) : (s.busXfer b).disp = s.disp := rfl
@[simp] theorem busXfer_ir (b : Byte) : (s.busXfer b).ir = s.ir := rfl
@[simp] theorem busXfer_rf (b : Byte) : (s.busXfer b).rf = s.rf := rfl
@[simp] theorem busXfer_res (b : Byte) : (s.busXfer b).res = s.res := rfl
@[simp] theorem busXfer_sys (b : Byte) : (s.busXfer b).sys = s.sys := rfl
@[simp] theorem busXfer_btnHold (b : Byte) : (s.busXfer b).btnHold = s.btnHold := rfl
@[simp] theorem busXfer_iterPos (b : Byte) : (s.busXfer b).iterPos = s.iterPos := rfl
@[simp] theorem busXfer_flt (b : Byte) : (s.busXfer b).flt = s.flt := rfl
@[simp] theorem busXfer_out (b : Byte) : (s.busXfer b).out = { s.out with bus := s.out.bus ++ [(b, s.answer)] } := rfl
@[simp] theorem busXfer_env (b : Byte) :
    (s.busXfer b).env = { s.env with answers := s.env.answers.tail, draws := s.env.draws + 1 } := rfl
@[simp] theorem busXfer_port (b : Byte) : (s.busXfer b).port = s.port := rfl

/-! ### turnTaken -/

@[simp] theorem turnTaken_cfg : (s.turnTaken).cfg = s.cfg := rfl
@[simp] theorem turnTaken_cnt : (s.turnTaken).cnt = s.cnt := rfl
@[simp] theorem turnTaken_tickEn : (s.turnTaken).tickEn = s.tickEn := rfl
@[simp] theorem turnTaken_disp : (s.turnTaken).disp = s.disp := rfl
@[simp] theorem turnTaken_ir : (s.turnTaken).ir = s.ir := rfl
@[simp] theorem turnTaken_rf : (s.turnTaken).rf = s.rf := rfl
@[simp] theorem turnTaken_res : (s.turnTaken).res = s.res := rfl
@[simp] theorem turnTaken_sys : (s.turnTaken).sys = s.sys := rfl
@[simp] theorem turnTaken_btnHold : (s.turnTaken).btnHold = s.btnHold := rfl
@[simp] theorem turnTaken_iterPos : (s.turnTaken).iterPos = s.iterPos := rfl
@[simp] theorem turnTaken_flt : (s.turnTaken).flt = s.flt := rfl
@[simp] theorem turnTaken_out : (s.turnTaken).out = s.out := rfl
@[simp] theorem turnTaken_env :
    (s.turnTaken).env = { s.env with turns := s.env.turns.tail, draws := s.env.draws + 1 } := rfl
@[simp] theorem turnTaken_port : (s.turnTaken).port = s.port := rfl

/-! ### accepted -/

@[simp] theorem accepted_cfg : (s.accepted).cfg = s.cfg := rfl
@[simp] theorem accepted_cnt : (s.accepted).cnt = s.cnt := rfl
@[simp] theorem accepted_tickEn : (s.accepted).tickEn = s.tickEn := rfl
@[simp] theorem accepted_disp : (s.accepted).disp = s.disp := rfl
@[simp] theorem accepted_ir : (s.accepted).ir = s.ir := rfl
@[simp] theorem accepted_rf : (s.accepted).rf = s.rf := rfl
@[simp] theorem accepted_res : (s.accepted).res = s.res := rfl
@[simp] theorem accepted_sys : (s.accepted).sys = s.sys := rfl
@[simp] theorem accepted_btnHold : (s.accepted).btnHold = s.btnHold := rfl
@[simp] theorem accepted_iterPos : (s.accepted).iterPos = s.iterPos := rfl
@[simp] theorem accepted_flt : (s.accepted).flt = s.flt := rfl
@[simp] theorem accepted_out : (s.accepted).out = s.out := rfl
@[simp] theorem accepted_env : (s.accepted).env = s.env := rfl
@[simp] theorem accepted_port : (s.accepted).port = s.port.tail := rfl

/-! ### setDigits -/

@[simp] theorem setDigits_cfg (d : Quad Byte) : (s.setDigits d).cfg = s.cfg := rfl
@[simp] theorem setDigits_cnt (d : Quad Byte) : (s.setDigits d).cnt = s.cnt := rfl
@[simp] theorem setDigits_tickEn (d : Quad Byte) : (s.setDigits d).tickEn = s.tickEn := rfl
@[simp] theorem setDigits_disp (d : Quad Byte) : (s.setDigits d).disp = { s.disp with dig := d } := rfl
@[simp] theorem setDigits_ir (d : Quad Byte) : (s.setDigits d).ir = s.ir := rfl
@[simp] theorem setDigits_rf (d : Quad Byte) : (s.setDigits d).rf = s.rf := rfl
@[simp] theorem setDigits_res (d : Quad Byte) : (s.setDigits d).res = s.res := rfl
@[simp] theorem setDigits_sys (d : Quad Byte) : (s.setDigits d).sys = s.sys := rfl
@[simp] theorem setDigits_btnHold (d : Quad Byte) : (s.setDigits d).btnHold = s.btnHold := rfl
@[simp] theorem setDigits_iterPos (d : Quad Byte) : (s.setDigits d).iterPos = s.iterPos := rfl
@[simp] theorem setDigits_flt (d : Quad Byte) : (s.setDigits d).flt = s.flt := rfl
@[simp] theorem setDigits_out (d : Quad Byte) : (s.setDigits d).out = s.out := rfl
@[simp] theorem setDigits_env (d : Quad Byte) : (s.setDigits d).env = s.env := rfl
@[simp] theorem setDigits_port (d : Quad Byte) : (s.setDigits d).port = s.port := rfl

/-! ### setDirty -/

@[simp] theorem setDirty_cfg (b : Bool) : (s.setDirty b).cfg = s.cfg := rfl
@[simp] theorem setDirty_cnt (b : Bool) : (s.setDirty b).cnt = s.cnt := rfl
@[simp] theorem setDirty_tickEn (b : Bool) : (s.setDirty b).tickEn = s.tickEn := rfl
@[simp] theorem setDirty_disp (b : Bool) : (s.setDirty b).disp = { s.disp with dirty := b } := rfl
@[simp] theorem setDirty_ir (b : Bool) : (s.setDirty b).ir = s.ir := rfl
@[simp] theorem setDirty_rf (b : Bool) : (s.setDirty b).rf = s.rf := rfl
@[simp] theorem setDirty_res (b : Bool) : (s.setDirty b).res = s.res := rfl
@[simp] theorem setDirty_sys (b : Bool) : (s.setDirty b).sys = s.sys := rfl
@[simp] theorem setDirty_btnHold (b : Bool) : (s.setDirty b).btnHold = s.btnHold := rfl
@[simp] theorem setDirty_iterPos (b : Bool) : (s.setDirty b).iterPos = s.iterPos := rfl
@[simp] theorem setDirty_flt (b : Bool) : (s.setDirty b).flt = s.flt := rfl
@[simp] theorem setDirty_out (b : Bool) : (s.setDirty b).out = s.out := rfl
@[simp] theorem setDirty_env (b : Bool) : (s.setDirty b).env = s.env := rfl
@[simp] theorem setDirty_port (b : Bool) : (s.setDirty b).port = s.port := rfl

/-! ### startScan -/

@[simp] theorem startScan_cfg (f : Nat) : (s.startScan f).cfg = s.cfg := rfl
@[simp] theorem startScan_cnt (f : Nat) : (s.startScan f).cnt = s.cnt := rfl
@[simp] theorem startScan_tickEn (f : Nat) : (s.startScan f).tickEn = s.tickEn := rfl
@[simp] theorem startScan_disp (f : Nat) :
    (s.startScan f).disp = { s.disp with frame := f, dirty := false, bitIdx := 0 } := rfl
@[simp] theorem startScan_ir (f : Nat) : (s.startScan f).ir = s.ir := rfl
@[simp] theorem startScan_rf (f : Nat) : (s.startScan f).rf = s.rf := rfl
@[simp] theorem startScan_res (f : Nat) : (s.startScan f).res = s.res := rfl
@[simp] theorem startScan_sys (f : Nat) : (s.startScan f).sys = s.sys := rfl
@[simp] theorem startScan_btnHold (f : Nat) : (s.startScan f).btnHold = s.btnHold := rfl
@[simp] theorem startScan_iterPos (f : Nat) : (s.startScan f).iterPos = s.iterPos := rfl
@[simp] theorem startScan_flt (f : Nat) : (s.startScan f).flt = s.flt := rfl
@[simp] theorem startScan_out (f : Nat) : (s.startScan f).out = s.out := rfl
@[simp] theorem startScan_env (f : Nat) : (s.startScan f).env = s.env := rfl
@[simp] theorem startScan_port (f : Nat) : (s.startScan f).port = s.port := rfl

/-! ### setBitIdx -/

@[simp] theorem setBitIdx_cfg (i : Byte) : (s.setBitIdx i).cfg = s.cfg := rfl
@[simp] theorem setBitIdx_cnt (i : Byte) : (s.setBitIdx i).cnt = s.cnt := rfl
@[simp] theorem setBitIdx_tickEn (i : Byte) : (s.setBitIdx i).tickEn = s.tickEn := rfl
@[simp] theorem setBitIdx_disp (i : Byte) : (s.setBitIdx i).disp = { s.disp with bitIdx := i } := rfl
@[simp] theorem setBitIdx_ir (i : Byte) : (s.setBitIdx i).ir = s.ir := rfl
@[simp] theorem setBitIdx_rf (i : Byte) : (s.setBitIdx i).rf = s.rf := rfl
@[simp] theorem setBitIdx_res (i : Byte) : (s.setBitIdx i).res = s.res := rfl
@[simp] theorem setBitIdx_sys (i : Byte) : (s.setBitIdx i).sys = s.sys := rfl
@[simp] theorem setBitIdx_btnHold (i : Byte) : (s.setBitIdx i).btnHold = s.btnHold := rfl
@[simp] theorem setBitIdx_iterPos (i : Byte) : (s.setBitIdx i).iterPos = s.iterPos := rfl
@[simp] theorem setBitIdx_flt (i : Byte) : (s.setBitIdx i).flt = s.flt := rfl
@[simp] theorem setBitIdx_out (i : Byte) : (s.setBitIdx i).out = s.out := rfl
@[simp] theorem setBitIdx_env (i : Byte) : (s.setBitIdx i).env = s.env := rfl
@[simp] theorem setBitIdx_port (i : Byte) : (s.setBitIdx i).port = s.port := rfl

/-! ### setRfState -/

@[simp] theorem setRfState_cfg (x : RfState) : (s.setRfState x).cfg = s.cfg := rfl
@[simp] theorem setRfState_cnt (x : RfState) : (s.setRfState x).cnt = s.cnt := rfl
@[simp] theorem setRfState_tickEn (x : RfState) : (s.setRfState x).tickEn = s.tickEn := rfl
@[simp] theorem setRfState_disp (x : RfState) : (s.setRfState x).disp = s.disp := rfl
@[simp] theorem setRfState_ir (x : RfState) : (s.setRfState x).ir = s.ir := rfl
@[simp] theorem setRfState_rf (x : RfState) : (s.setRfState x).rf = { s.rf with state := x } := rfl
@[simp] theorem setRfState_res (x : RfState) : (s.setRfState x).res = s.res := rfl
@[simp] theorem setRfState_sys (x : RfState) : (s.setRfState x).sys = s.sys := rfl
@[simp] theorem setRfState_btnHold (x : RfState) : (s.setRfState x).btnHold = s.btnHold := rfl
@[simp] theorem setRfState_iterPos (x : RfState) : (s.setRfState x).iterPos = s.iterPos := rfl
@[simp] theorem setRfState_flt (x : RfState) : (s.setRfState x).flt = s.flt := rfl
@[simp] theorem setRfState_out (x : RfState) : (s.setRfState x).out = s.out := rfl
@[simp] theorem setRfState_env (x : RfState) : (s.setRfState x).env = s.env := rfl
@[simp] theorem setRfState_port (x : RfState) : (s.setRfState x).port = s.port := rfl

/-! ### startSend -/

@[simp] theorem startSend_cfg (btn sig : Bool) : (s.startSend btn sig).cfg = s.cfg := rfl
@[simp] theorem startSend_cnt (btn sig : Bool) : (s.startSend btn sig).cnt = s.cnt := rfl
@[simp] theorem startSend_tickEn (btn sig : Bool) : (s.startSend btn sig).tickEn = s.tickEn := rfl
@[simp] theorem startSend_disp (btn sig : Bool) : (s.startSend btn sig).disp = s.disp := rfl
@[simp] theorem startSend_ir (btn sig : Bool) : (s.startSend btn sig).ir = s.ir := rfl
@[simp] theorem startSend_rf (btn sig : Bool) :
    (s.startSend btn sig).rf =
      { s.rf with pkt := packetByte btn sig s.rf.seq, seq := s.rf.seq + 1, retry := s.cfg.retryMax,
                  timeout := 0, idleLink := 0, state := .txStart } := rfl
@[simp] theorem startSend_res (btn sig : Bool) : (s.startSend btn sig).res = s.res := rfl
@[simp] theorem startSend_sys (btn sig : Bool) : (s.startSend btn sig).sys = s.sys := rfl
@[simp] theorem startSend_btnHold (btn sig : Bool) : (s.startSend btn sig).btnHold = s.btnHold := rfl
@[simp] theorem startSend_iterPos (btn sig : Bool) : (s.startSend btn sig).iterPos = s.iterPos := rfl
@[simp] theorem startSend_flt (btn sig : Bool) : (s.startSend btn sig).flt = s.flt := rfl
@[simp] theorem startSend_out (btn sig : Bool) : (s.startSend btn sig).out = s.out := rfl
@[simp] theorem startSend_env (btn sig : Bool) : (s.startSend btn sig).env = s.env := rfl
@[simp] theorem startSend_port (btn sig : Bool) : (s.startSend btn sig).port = s.port := rfl

/-! ### setIrState -/

@[simp] theorem setIrState_cfg (x : IrState) : (s.setIrState x).cfg = s.cfg := rfl
@[simp] theorem setIrState_cnt (x : IrState) : (s.setIrState x).cnt = s.cnt := rfl
@[simp] theorem setIrState_tickEn (x : IrState) : (s.setIrState x).tickEn = s.tickEn := rfl
@[simp] theorem setIrState_disp (x : IrState) : (s.setIrState x).disp = s.disp := rfl
@[simp] theorem setIrState_ir (x : IrState) : (s.setIrState x).ir = { s.ir with state := x } := rfl
@[simp] theorem setIrState_rf (x : IrState) : (s.setIrState x).rf = s.rf := rfl
@[simp] theorem setIrState_res (x : IrState) : (s.setIrState x).res = s.res := rfl
@[simp] theorem setIrState_sys (x : IrState) : (s.setIrState x).sys = s.sys := rfl
@[simp] theorem setIrState_btnHold (x : IrState) : (s.setIrState x).btnHold = s.btnHold := rfl
@[simp] theorem setIrState_iterPos (x : IrState) : (s.setIrState x).iterPos = s.iterPos := rfl
@[simp] theorem setIrState_flt (x : IrState) : (s.setIrState x).flt = s.flt := rfl
@[simp] theorem setIrState_out (x : IrState) : (s.setIrState x).out = s.out := rfl
@[simp] theorem setIrState_env (x : IrState) : (s.setIrState x).env = s.env := rfl
@[simp] theorem setIrState_port (x : IrState) : (s.setIrState x).port = s.port := rfl

/-! ### drivePin -/

@[simp] theorem drivePin_cfg (p : Pin) (l : Bool) : (s.drivePin p l).cfg = s.cfg := by cases p <;> rfl
@[simp] theorem drivePin_cnt (p : Pin) (l : Bool) : (s.drivePin p l).cnt = s.cnt := by cases p <;> rfl
@[simp] theorem drivePin_tickEn (p : Pin) (l : Bool) : (s.drivePin p l).tickEn = s.tickEn := by cases p <;> rfl
@[simp] theorem drivePin_rf (p : Pin) (l : Bool) : (s.drivePin p l).rf = s.rf := by cases p <;> rfl
@[simp] theorem drivePin_res (p : Pin) (l : Bool) : (s.drivePin p l).res = s.res := by cases p <;> rfl
@[simp] theorem drivePin_sys (p : Pin) (l : Bool) : (s.drivePin p l).sys = s.sys := by cases p <;> rfl
@[simp] theorem drivePin_btnHold (p : Pin) (l : Bool) : (s.drivePin p l).btnHold = s.btnHold := by cases p <;> rfl
@[simp] theorem drivePin_iterPos (p : Pin) (l : Bool) : (s.drivePin p l).iterPos = s.iterPos := by cases p <;> rfl
@[simp] theorem drivePin_flt (p : Pin) (l : Bool) : (s.drivePin p l).flt = s.flt := by cases p <;> rfl
@[simp] theorem drivePin_out (p : Pin) (l : Bool) : (s.drivePin p l).out = s.out := by cases p <;> rfl
@[simp] theorem drivePin_env (p : Pin) (l : Bool) : (s.drivePin p l).env = s.env := by cases p <;> rfl
@[simp] theorem drivePin_port (p : Pin) (l : Bool) : (s.drivePin p l).port = s.port := by cases p <;> rfl
@[simp] theorem drivePin_irOutA (l : Bool) : s.drivePin .irOutA l = { s with ir := { s.ir with outA := l } } := rfl
@[simp] theorem drivePin_dspSer (l : Bool) : s.drivePin .dspSer l = { s with disp := { s.disp with ser := l } } := rfl
@[simp] theorem drivePin_dspSrclk (l : Bool) :
    s.drivePin .dspSrclk l = { s with disp := { s.disp with srclk := l } } := rfl
@[simp] theorem drivePin_dspRclk (l : Bool) :
    s.drivePin .dspRclk l = { s with disp := { s.disp with rclk := l } } := rfl

/-! ### pinWrite -/

@[simp] theorem pinWrite_cfg (p : Pin) (l : Bool) : (s.pinWrite p l).cfg = s.cfg := by cases p <;> rfl
@[simp] theorem pinWrite_cnt (p : Pin) (l : Bool) : (s.pinWrite p l).cnt = s.cnt := by cases p <;> rfl
@[simp] theorem pinWrite_tickEn (p : Pin) (l : Bool) : (s.pinWrite p l).tickEn = s.tickEn := by cases p <;> rfl
@[simp] theorem pinWrite_disp (p : Pin) (l : Bool) :
    (s.pinWrite p l).disp = (s.drivePin p l).disp := by cases p <;> rfl
@[simp] theorem pinWrite_ir (p : Pin) (l : Bool) : (s.pinWrite p l).ir = (s.drivePin p l).ir := by cases p <;> rfl
@[simp] theorem pinWrite_rf (p : Pin) (l : Bool) : (s.pinWrite p l).rf = s.rf := by cases p <;> rfl
@[simp] theorem pinWrite_res (p : Pin) (l : Bool) : (s.pinWrite p l).res = s.res := by cases p <;> rfl
@[simp] theorem pinWrite_sys (p : Pin) (l : Bool) : (s.pinWrite p l).sys = s.sys := by cases p <;> rfl
@[simp] theorem pinWrite_btnHold (p : Pin) (l : Bool) : (s.pinWrite p l).btnHold = s.btnHold := by cases p <;> rfl
@[simp] theorem pinWrite_iterPos (p : Pin) (l : Bool) : (s.pinWrite p l).iterPos = s.iterPos := by cases p <;> rfl
@[simp] theorem pinWrite_flt (p : Pin) (l : Bool) : (s.pinWrite p l).flt = s.flt := by cases p <;> rfl
@[simp] theorem pinWrite_out (p : Pin) (l : Bool) :
    (s.pinWrite p l).out = { s.out with pins := s.out.pins ++ [(p, l)] } := by cases p <;> rfl
@[simp] theorem pinWrite_env (p : Pin) (l : Bool) : (s.pinWrite p l).env = s.env := by cases p <;> rfl
@[simp] theorem pinWrite_port (p : Pin) (l : Bool) : (s.pinWrite p l).port = s.port := by cases p <;> rfl

/-! ### risingEdge -/

@[simp] theorem risingEdge_cfg (p : Pin) : (s.risingEdge p).cfg = s.cfg := by cases p <;> rfl
@[simp] theorem risingEdge_cnt (p : Pin) : (s.risingEdge p).cnt = s.cnt := by cases p <;> rfl
@[simp] theorem risingEdge_tickEn (p : Pin) : (s.risingEdge p).tickEn = s.tickEn := by cases p <;> rfl
@[simp] theorem risingEdge_ir (p : Pin) : (s.risingEdge p).ir = s.ir := by cases p <;> rfl
@[simp] theorem risingEdge_rf (p : Pin) : (s.risingEdge p).rf = s.rf := by cases p <;> rfl
@[simp] theorem risingEdge_res (p : Pin) : (s.risingEdge p).res = s.res := by cases p <;> rfl
@[simp] theorem risingEdge_sys (p : Pin) : (s.risingEdge p).sys = s.sys := by cases p <;> rfl
@[simp] theorem risingEdge_btnHold (p : Pin) : (s.risingEdge p).btnHold = s.btnHold := by cases p <;> rfl
@[simp] theorem risingEdge_iterPos (p : Pin) : (s.risingEdge p).iterPos = s.iterPos := by cases p <;> rfl
@[simp] theorem risingEdge_flt (p : Pin) : (s.risingEdge p).flt = s.flt := by cases p <;> rfl
@[simp] theorem risingEdge_out (p : Pin) : (s.risingEdge p).out = s.out := by cases p <;> rfl
@[simp] theorem risingEdge_env (p : Pin) : (s.risingEdge p).env = s.env := by cases p <;> rfl
@[simp] theorem risingEdge_port (p : Pin) : (s.risingEdge p).port = s.port := by cases p <;> rfl
@[simp] theorem risingEdge_dspSrclk_disp :
    (s.risingEdge .dspSrclk).disp =
      { s.disp with srShift := shiftIn s.cfg.frameBits s.disp.srShift s.disp.ser } := rfl
@[simp] theorem risingEdge_dspRclk_disp :
    (s.risingEdge .dspRclk).disp = { s.disp with srLatch := s.disp.srShift } := rfl

/-! ### pulse -/

@[simp] theorem pulse_cfg (p : Pin) : (s.pulse p).cfg = s.cfg := by simp [State.pulse]
@[simp] theorem pulse_cnt (p : Pin) : (s.pulse p).cnt = s.cnt := by simp [State.pulse]
@[simp] theorem pulse_tickEn (p : Pin) : (s.pulse p).tickEn = s.tickEn := by simp [State.pulse]
@[simp] theorem pulse_rf (p : Pin) : (s.pulse p).rf = s.rf := by simp [State.pulse]
@[simp] theorem pulse_res (p : Pin) : (s.pulse p).res = s.res := by simp [State.pulse]
@[simp] theorem pulse_sys (p : Pin) : (s.pulse p).sys = s.sys := by simp [State.pulse]
@[simp] theorem pulse_btnHold (p : Pin) : (s.pulse p).btnHold = s.btnHold := by simp [State.pulse]
@[simp] theorem pulse_iterPos (p : Pin) : (s.pulse p).iterPos = s.iterPos := by simp [State.pulse]
@[simp] theorem pulse_flt (p : Pin) : (s.pulse p).flt = s.flt := by simp [State.pulse]
@[simp] theorem pulse_out (p : Pin) :
    (s.pulse p).out = { s.out with pins := s.out.pins ++ [(p, true)] ++ [(p, false)] } := by simp [State.pulse]
@[simp] theorem pulse_env (p : Pin) : (s.pulse p).env = s.env := by simp [State.pulse]
@[simp] theorem pulse_port (p : Pin) : (s.pulse p).port = s.port := by simp [State.pulse]
@[simp] theorem pulse_dspSrclk_ir : (s.pulse .dspSrclk).ir = s.ir := by simp [State.pulse]
@[simp] theorem pulse_dspRclk_ir : (s.pulse .dspRclk).ir = s.ir := by simp [State.pulse]
@[simp] theorem pulse_dspSrclk_disp :
    (s.pulse .dspSrclk).disp =
      { s.disp with srclk := false, srShift := shiftIn s.cfg.frameBits s.disp.srShift s.disp.ser } := by
  simp [State.pulse]
@[simp] theorem pulse_dspRclk_disp :
    (s.pulse .dspRclk).disp = { s.disp with rclk := false, srLatch := s.disp.srShift } := by
  simp [State.pulse]

/-! ### shiftOut -/

@[simp] theorem shiftOut_cfg (b : Bool) : (s.shiftOut b).cfg = s.cfg := by simp [State.shiftOut]
@[simp] theorem shiftOut_cnt (b : Bool) : (s.shiftOut b).cnt = s.cnt := by simp [State.shiftOut]
@[simp] theorem shiftOut_tickEn (b : Bool) : (s.shiftOut b).tickEn = s.tickEn := by simp [State.shiftOut]
@[simp] theorem shiftOut_disp (b : Bool) :
    (s.shiftOut b).disp =
      { s.disp with ser := b, srclk := false, srShift := shiftIn s.cfg.frameBits s.disp.srShift b } := by
  simp [State.shiftOut]
@[simp] theorem shiftOut_ir (b : Bool) : (s.shiftOut b).ir = s.ir := by simp [State.shiftOut]
@[simp] theorem shiftOut_rf (b : Bool) : (s.shiftOut b).rf = s.rf := by simp [State.shiftOut]
@[simp] theorem shiftOut_res (b : Bool) : (s.shiftOut b).res = s.res := by simp [State.shiftOut]
@[simp] theorem shiftOut_sys (b : Bool) : (s.shiftOut b).sys = s.sys := by simp [State.shiftOut]
@[simp] theorem shiftOut_btnHold (b : Bool) : (s.shiftOut b).btnHold = s.btnHold := by simp [State.shiftOut]
@[simp] theorem shiftOut_iterPos (b : Bool) : (s.shiftOut b).iterPos = s.iterPos := by simp [State.shiftOut]
@[simp] theorem shiftOut_flt (b : Bool) : (s.shiftOut b).flt = s.flt := by simp [State.shiftOut]
@[simp] theorem shiftOut_out (b : Bool) :
    (s.shiftOut b).out =
      { s.out with pins := s.out.pins ++ [(.dspSer, b)] ++ [(.dspSrclk, true)] ++ [(.dspSrclk, false)] } := by
  simp [State.shiftOut]
@[simp] theorem shiftOut_env (b : Bool) : (s.shiftOut b).env = s.env := by simp [State.shiftOut]
@[simp] theorem shiftOut_port (b : Bool) : (s.shiftOut b).port = s.port := by simp [State.shiftOut]

end Sys2Proof.Laws
end

