-- ==== Sys2Proof/Laws/Ops.lean ====
section
/-! SUPPORT. What each primitive of Machine/Ops.lean does, once: counters, samples, bus transfers, the fault record,
and the arithmetic of the saturating counters. -/

namespace Sys2Proof.Laws

open Sys2Proof.Machine

/-! ### The counter bank -/

@[simp] theorem tick_size (b : CounterBank) (w : Nat) : (b.tick w).size = b.size := by
  simp [CounterBank.size, CounterBank.tick]

@[simp] theorem clear_size (b : CounterBank) (i : Nat) : (b.clear i).size = b.size := by
  unfold CounterBank.clear
  split <;> simp [CounterBank.size]

/-- A counter exists exactly below NUM_COUNTERS. -/
theorem get?_eq_none_iff (b : CounterBank) (i : Nat) : b.get? i = none ↔ b.size ≤ i := by
  unfold CounterBank.get? CounterBank.size
  split <;> simp <;> omega

theorem get?_isSome_iff (b : CounterBank) (i : Nat) : (∃ v, b.get? i = some v) ↔ i < b.size := by
  rw [← Option.isSome_iff_exists, ← not_iff_not, Option.not_isSome_iff_eq_none, get?_eq_none_iff]
  omega

/-- A tick advances the counter of every index (R170). -/
@[simp] theorem get?_tick (b : CounterBank) (w i : Nat) : (b.tick w).get? i = (b.get? i).map (tickValue w) := by
  unfold CounterBank.get? CounterBank.tick
  split <;> simp

/-- A reset writes 0 to its own counter, if there is one. -/
theorem get?_clear_self (b : CounterBank) (i : Nat) : (b.clear i).get? i = (b.get? i).map fun _ => 0 := by
  unfold CounterBank.get? CounterBank.clear
  split <;> simp [List.getElem?_set]
  split <;> simp_all

/-- A reset leaves the other counters (R172). -/
theorem get?_clear_ne (b : CounterBank) {i j : Nat} (h : i ≠ j) : (b.clear i).get? j = b.get? j := by
  unfold CounterBank.clear
  split <;> (unfold CounterBank.get?; split <;> first | rfl | contradiction | skip)
  simp only [List.getElem?_set]
  split
  · omega
  · rfl

theorem tickValue_lt (w v : Nat) : tickValue w v < 2 ^ w := Nat.mod_lt _ (Nat.two_pow_pos w)

/-! ### Saturating counters -/

theorem satInc_toNat {w : Nat} (v ceil : BitVec w) : (satInc v ceil).toNat = min (v.toNat + 1) ceil.toNat := by
  unfold satInc
  rw [BitVec.toNat_ofNat, Nat.mod_eq_of_lt]
  have := ceil.isLt
  omega

/-! ### Samples and transfers -/

/-- A waiting level is what the sample gives. -/
theorem level_of_waiting {s : State} {l : Line} {v : Bool} (h : waitingLevel l s.env.levels = some v) :
    s.level l = v := by
  simp [State.level, h]

theorem waitingLevel_cons_self (l : Line) (v : Bool) (r : List (Line × Bool)) :
    waitingLevel l ((l, v) :: r) = some v := by
  simp [waitingLevel]

theorem dropLevel_cons_self (l : Line) (v : Bool) (r : List (Line × Bool)) : dropLevel l ((l, v) :: r) = r := by
  simp [dropLevel]

/-- A run of transfers appends to the bus trace and uses up answers; it changes nothing else. -/
theorem busXfers_eq (s : State) (bs : List Byte) :
    s.busXfers bs = { s with out := { s.out with bus := (s.busXfers bs).out.bus }, env := (s.busXfers bs).env } := by
  induction bs generalizing s with
  | nil => rfl
  | cons b bs ih =>
    rw [State.busXfers, ih]
    simp [State.busXfer]

/-- The bytes sent are those asked for, in order (R12). -/
theorem busXfers_sent (s : State) (bs : List Byte) :
    (s.busXfers bs).out.bus.map Prod.fst = s.out.bus.map Prod.fst ++ bs := by
  induction bs generalizing s with
  | nil => simp [State.busXfers]
  | cons b bs ih => simp [State.busXfers, ih]

theorem busXfers_append (s : State) (bs cs : List Byte) : s.busXfers (bs ++ cs) = (s.busXfers bs).busXfers cs := by
  induction bs generalizing s with
  | nil => rfl
  | cons b bs ih => simp [State.busXfers, ih]

/-! ### The fault record (R401) -/

theorem record_first_of_recorded (f : FaultRegs) (c : Nat) (info : Word) (h : f.first ≠ 0) :
    (f.record c info).first = f.first ∧ (f.record c info).info = f.info := by
  simp_all [FaultRegs.record]

theorem record_first_of_clear (f : FaultRegs) (c : Nat) (info : Word) (h : f.first = 0) :
    (f.record c info).first = BitVec.ofNat 8 c ∧ (f.record c info).info = info := by
  simp [FaultRegs.record, h]

/-- The bits already set stay set. -/
theorem record_set_keeps (f : FaultRegs) (c : Nat) (info : Word) (j : Nat) (h : f.set.getLsbD j = true) :
    (f.record c info).set.getLsbD j = true := by
  simp [FaultRegs.record, h]

/-! ### The shift register (R210) -/

theorem shiftIn_lt (n x : Nat) (b : Bool) : shiftIn n x b < 2 ^ n := Nat.mod_lt _ (Nat.two_pow_pos n)

/-- Bit 0 of the shifted register is the serial bit, and every other bit comes from the stage below. -/
theorem testBit_shiftIn (n x : Nat) (b : Bool) (j : Nat) :
    (shiftIn n x b).testBit j = (decide (j < n) && if j = 0 then b else x.testBit (j - 1)) := by
  unfold shiftIn
  rw [Nat.testBit_mod_two_pow, Nat.testBit_or, Nat.testBit_shiftLeft]
  cases j with
  | zero => cases b <;> simp
  | succ j => cases b <;> simp [Nat.testBit_succ]

end Sys2Proof.Laws
end

