-- ==== Sys2Proof/Laws/Effects.lean ====
section
/-! SUPPORT. What each composite operation leaves unchanged, one lemma an operation, which simp uses
field by field: the frames that later proofs cite. -/

namespace Sys2Proof.Laws

open Sys2Proof.Machine

variable (s : State)

@[simp] theorem shiftZeros_frame (n : Nat) :
    (s.shiftZeros n).cfg = s.cfg ∧ (s.shiftZeros n).cnt = s.cnt ∧ (s.shiftZeros n).tickEn = s.tickEn ∧
    (s.shiftZeros n).ir = s.ir ∧ (s.shiftZeros n).rf = s.rf ∧ (s.shiftZeros n).res = s.res ∧
    (s.shiftZeros n).sys = s.sys ∧ (s.shiftZeros n).btnHold = s.btnHold ∧ (s.shiftZeros n).iterPos = s.iterPos ∧
    (s.shiftZeros n).flt = s.flt ∧ (s.shiftZeros n).env = s.env ∧ (s.shiftZeros n).port = s.port ∧
    (s.shiftZeros n).disp.dig = s.disp.dig ∧ (s.shiftZeros n).disp.dirty = s.disp.dirty ∧
    (s.shiftZeros n).disp.setsel = s.disp.setsel ∧ (s.shiftZeros n).disp.frame = s.disp.frame ∧
    (s.shiftZeros n).disp.bitIdx = s.disp.bitIdx ∧ (s.shiftZeros n).disp.rclk = s.disp.rclk ∧
    (s.shiftZeros n).disp.srLatch = s.disp.srLatch ∧ (s.shiftZeros n).out.bus = s.out.bus ∧
    (s.shiftZeros n).out.events = s.out.events := by
    induction n generalizing s with
  | zero => simp [State.shiftZeros]
  | succ n ih => simp [State.shiftZeros, ih]

@[simp] theorem busXfers_frame (bs : List Byte) :
    (s.busXfers bs).cfg = s.cfg ∧ (s.busXfers bs).cnt = s.cnt ∧ (s.busXfers bs).tickEn = s.tickEn ∧
    (s.busXfers bs).disp = s.disp ∧ (s.busXfers bs).ir = s.ir ∧ (s.busXfers bs).rf = s.rf ∧
    (s.busXfers bs).res = s.res ∧ (s.busXfers bs).sys = s.sys ∧ (s.busXfers bs).btnHold = s.btnHold ∧
    (s.busXfers bs).iterPos = s.iterPos ∧ (s.busXfers bs).flt = s.flt ∧ (s.busXfers bs).port = s.port ∧
    (s.busXfers bs).out.pins = s.out.pins ∧ (s.busXfers bs).out.events = s.out.events := by
    induction bs generalizing s with
  | nil => simp [State.busXfers]
  | cons b bs ih => simp [State.busXfers, ih]

@[simp] theorem advanceScan_frame :
    (advanceScan s).cfg = s.cfg ∧ (advanceScan s).cnt = s.cnt ∧ (advanceScan s).tickEn = s.tickEn ∧
    (advanceScan s).ir = s.ir ∧ (advanceScan s).rf = s.rf ∧ (advanceScan s).res = s.res ∧
    (advanceScan s).sys = s.sys ∧ (advanceScan s).btnHold = s.btnHold ∧ (advanceScan s).iterPos = s.iterPos ∧
    (advanceScan s).flt = s.flt ∧ (advanceScan s).env = s.env ∧ (advanceScan s).port = s.port ∧
    (advanceScan s).disp.dig = s.disp.dig ∧ (advanceScan s).disp.dirty = s.disp.dirty ∧
    (advanceScan s).disp.setsel = s.disp.setsel ∧ (advanceScan s).disp.frame = s.disp.frame ∧
    (advanceScan s).out.bus = s.out.bus ∧ (advanceScan s).out.events = s.out.events := by
  unfold advanceScan
  (repeat' split) <;> simp

@[simp] theorem turnOff_frame :
    (turnOff s).cfg = s.cfg ∧ (turnOff s).cnt = s.cnt ∧ (turnOff s).tickEn = s.tickEn ∧ (turnOff s).ir = s.ir ∧
    (turnOff s).rf = s.rf ∧ (turnOff s).res = s.res ∧ (turnOff s).sys = s.sys ∧
    (turnOff s).btnHold = s.btnHold ∧ (turnOff s).iterPos = s.iterPos ∧ (turnOff s).flt = s.flt ∧
    (turnOff s).env = s.env ∧ (turnOff s).port = s.port ∧ (turnOff s).disp.dig = s.disp.dig ∧
    (turnOff s).disp.dirty = s.disp.dirty ∧ (turnOff s).disp.setsel = s.disp.setsel ∧
    (turnOff s).disp.frame = s.disp.frame ∧ (turnOff s).out.bus = s.out.bus ∧
    (turnOff s).out.events = s.out.events := by
  simp [turnOff]

@[simp] theorem shutdownBody_frame :
    (shutdownBody s).cfg = s.cfg ∧ (shutdownBody s).cnt = s.cnt ∧ (shutdownBody s).res = s.res ∧
    (shutdownBody s).btnHold = s.btnHold ∧ (shutdownBody s).iterPos = s.iterPos ∧ (shutdownBody s).flt = s.flt ∧
    (shutdownBody s).env = s.env ∧ (shutdownBody s).port = s.port ∧ (shutdownBody s).out.bus = s.out.bus ∧
    (shutdownBody s).disp.dig = s.disp.dig ∧ (shutdownBody s).disp.dirty = s.disp.dirty ∧
    (shutdownBody s).disp.setsel = s.disp.setsel ∧ (shutdownBody s).disp.frame = s.disp.frame ∧
    (shutdownBody s).ir.state = s.ir.state ∧ (shutdownBody s).ir.broken = s.ir.broken ∧
    (shutdownBody s).ir.brokenThresh = s.ir.brokenThresh ∧ (shutdownBody s).ir.irDelay = s.ir.irDelay ∧
    (shutdownBody s).ir.cooldown = s.ir.cooldown ∧ (shutdownBody s).ir.lostLatch = s.ir.lostLatch ∧
    (shutdownBody s).ir.peerConnected = s.ir.peerConnected ∧ (shutdownBody s).rf.seq = s.rf.seq ∧
    (shutdownBody s).rf.pkt = s.rf.pkt ∧ (shutdownBody s).rf.retry = s.rf.retry ∧
    (shutdownBody s).rf.timeout = s.rf.timeout ∧ (shutdownBody s).rf.fails = s.rf.fails ∧
    (shutdownBody s).rf.idleLink = s.rf.idleLink ∧ (shutdownBody s).rf.ackByte = s.rf.ackByte ∧
    (shutdownBody s).rf.configured = s.rf.configured := by
  simp [shutdownBody]

@[simp] theorem shutdownSeq_frame :
    (shutdownSeq s).cfg = s.cfg ∧ (shutdownSeq s).cnt = s.cnt ∧ (shutdownSeq s).res = s.res ∧
    (shutdownSeq s).btnHold = s.btnHold ∧ (shutdownSeq s).iterPos = s.iterPos ∧ (shutdownSeq s).flt = s.flt ∧
    (shutdownSeq s).env = s.env ∧ (shutdownSeq s).port = s.port ∧ (shutdownSeq s).out.bus = s.out.bus ∧
    (shutdownSeq s).disp.dig = s.disp.dig ∧ (shutdownSeq s).disp.dirty = s.disp.dirty ∧
    (shutdownSeq s).disp.setsel = s.disp.setsel ∧ (shutdownSeq s).disp.frame = s.disp.frame ∧
    (shutdownSeq s).ir.state = s.ir.state ∧ (shutdownSeq s).ir.broken = s.ir.broken ∧
    (shutdownSeq s).ir.brokenThresh = s.ir.brokenThresh ∧ (shutdownSeq s).ir.irDelay = s.ir.irDelay ∧
    (shutdownSeq s).ir.cooldown = s.ir.cooldown ∧ (shutdownSeq s).ir.lostLatch = s.ir.lostLatch ∧
    (shutdownSeq s).ir.peerConnected = s.ir.peerConnected ∧ (shutdownSeq s).rf.seq = s.rf.seq ∧
    (shutdownSeq s).rf.pkt = s.rf.pkt ∧ (shutdownSeq s).rf.retry = s.rf.retry ∧
    (shutdownSeq s).rf.timeout = s.rf.timeout ∧ (shutdownSeq s).rf.fails = s.rf.fails ∧
    (shutdownSeq s).rf.idleLink = s.rf.idleLink ∧ (shutdownSeq s).rf.ackByte = s.rf.ackByte ∧
    (shutdownSeq s).rf.configured = s.rf.configured := by
  unfold shutdownSeq
  split <;> simp

@[simp] theorem sendPacket_frame (btn sig : Bool) :
    (sendPacket btn sig s).cfg = s.cfg ∧ (sendPacket btn sig s).cnt = s.cnt ∧
    (sendPacket btn sig s).tickEn = s.tickEn ∧ (sendPacket btn sig s).disp = s.disp ∧
    (sendPacket btn sig s).ir = s.ir ∧ (sendPacket btn sig s).res = s.res ∧ (sendPacket btn sig s).sys = s.sys ∧
    (sendPacket btn sig s).btnHold = s.btnHold ∧ (sendPacket btn sig s).iterPos = s.iterPos ∧
    (sendPacket btn sig s).flt = s.flt ∧ (sendPacket btn sig s).out = s.out ∧
    (sendPacket btn sig s).env = s.env ∧ (sendPacket btn sig s).port = s.port := by
  unfold sendPacket
  split <;> simp

@[simp] theorem exhausted_frame :
    (exhausted s).cfg = s.cfg ∧ (exhausted s).cnt = s.cnt ∧ (exhausted s).res = s.res ∧
    (exhausted s).btnHold = s.btnHold ∧ (exhausted s).iterPos = s.iterPos ∧ (exhausted s).flt = s.flt ∧
    (exhausted s).env = s.env ∧ (exhausted s).port = s.port ∧ (exhausted s).out.bus = s.out.bus ∧
    (exhausted s).disp.dig = s.disp.dig ∧ (exhausted s).disp.dirty = s.disp.dirty ∧
    (exhausted s).disp.setsel = s.disp.setsel ∧ (exhausted s).disp.frame = s.disp.frame ∧
    (exhausted s).ir.state = s.ir.state ∧ (exhausted s).ir.broken = s.ir.broken ∧
    (exhausted s).ir.brokenThresh = s.ir.brokenThresh ∧ (exhausted s).ir.irDelay = s.ir.irDelay ∧
    (exhausted s).ir.cooldown = s.ir.cooldown ∧ (exhausted s).ir.lostLatch = s.ir.lostLatch ∧
    (exhausted s).ir.peerConnected = s.ir.peerConnected ∧ (exhausted s).rf.seq = s.rf.seq ∧
    (exhausted s).rf.pkt = s.rf.pkt ∧ (exhausted s).rf.retry = s.rf.retry ∧
    (exhausted s).rf.timeout = s.rf.timeout ∧ (exhausted s).rf.idleLink = s.rf.idleLink ∧
    (exhausted s).rf.ackByte = s.rf.ackByte ∧ (exhausted s).rf.configured = s.rf.configured := by
  unfold exhausted
  dsimp only
  split <;> simp

@[simp] theorem recomputeFrame_frame :
    (recomputeFrame s).cfg = s.cfg ∧ (recomputeFrame s).cnt = s.cnt ∧ (recomputeFrame s).tickEn = s.tickEn ∧
    (recomputeFrame s).ir = s.ir ∧ (recomputeFrame s).rf = s.rf ∧ (recomputeFrame s).res = s.res ∧
    (recomputeFrame s).sys = s.sys ∧ (recomputeFrame s).btnHold = s.btnHold ∧
    (recomputeFrame s).iterPos = s.iterPos ∧ (recomputeFrame s).out = s.out ∧ (recomputeFrame s).env = s.env ∧
    (recomputeFrame s).port = s.port := by
  unfold recomputeFrame
  (repeat' split) <;> simp

@[simp] theorem configureRadio_frame :
    (configureRadio s).cfg = s.cfg ∧ (configureRadio s).cnt = s.cnt ∧ (configureRadio s).tickEn = s.tickEn ∧
    (configureRadio s).disp = s.disp ∧ (configureRadio s).ir = s.ir ∧ (configureRadio s).res = s.res ∧
    (configureRadio s).sys = s.sys ∧ (configureRadio s).btnHold = s.btnHold ∧
    (configureRadio s).iterPos = s.iterPos ∧ (configureRadio s).flt = s.flt ∧ (configureRadio s).port = s.port ∧
    (configureRadio s).out.pins = s.out.pins ∧ (configureRadio s).out.events = s.out.events := by
  simp [configureRadio]

@[simp] theorem acknowledge_frame (b : Byte) :
    (s.acknowledge b).cfg = s.cfg ∧ (s.acknowledge b).cnt = s.cnt ∧ (s.acknowledge b).tickEn = s.tickEn ∧
    (s.acknowledge b).disp = s.disp ∧ (s.acknowledge b).res = s.res ∧ (s.acknowledge b).sys = s.sys ∧
    (s.acknowledge b).btnHold = s.btnHold ∧ (s.acknowledge b).iterPos = s.iterPos ∧
    (s.acknowledge b).flt = s.flt ∧ (s.acknowledge b).env = s.env ∧ (s.acknowledge b).port = s.port := by
  simp [State.acknowledge]

@[simp] theorem readAck_frame :
    (readAck s).cfg = s.cfg ∧ (readAck s).cnt = s.cnt ∧ (readAck s).tickEn = s.tickEn ∧
    (readAck s).disp = s.disp ∧ (readAck s).res = s.res ∧ (readAck s).sys = s.sys ∧
    (readAck s).btnHold = s.btnHold ∧ (readAck s).iterPos = s.iterPos ∧ (readAck s).flt = s.flt ∧
    (readAck s).port = s.port := by
  simp [readAck]

@[simp] theorem windowElapsed_frame :
    (windowElapsed s).cfg = s.cfg ∧ (windowElapsed s).cnt = s.cnt ∧ (windowElapsed s).res = s.res ∧
    (windowElapsed s).btnHold = s.btnHold ∧ (windowElapsed s).iterPos = s.iterPos ∧
    (windowElapsed s).flt = s.flt ∧ (windowElapsed s).port = s.port ∧ (windowElapsed s).disp.dig = s.disp.dig ∧
    (windowElapsed s).disp.dirty = s.disp.dirty ∧ (windowElapsed s).disp.setsel = s.disp.setsel ∧
    (windowElapsed s).disp.frame = s.disp.frame := by
  unfold windowElapsed
  dsimp only
  split <;> simp

@[simp] theorem rfTxStart_frame :
    (rfTxStart s).cfg = s.cfg ∧ (rfTxStart s).cnt = s.cnt ∧ (rfTxStart s).tickEn = s.tickEn ∧
    (rfTxStart s).disp = s.disp ∧ (rfTxStart s).ir = s.ir ∧ (rfTxStart s).res = s.res ∧
    (rfTxStart s).sys = s.sys ∧ (rfTxStart s).btnHold = s.btnHold ∧ (rfTxStart s).iterPos = s.iterPos ∧
    (rfTxStart s).flt = s.flt ∧ (rfTxStart s).port = s.port ∧ (rfTxStart s).out.pins = s.out.pins ∧
    (rfTxStart s).out.events = s.out.events := by
  simp [rfTxStart]

@[simp] theorem rfWaitCarrierAssert_frame :
    (rfWaitCarrierAssert s).cfg = s.cfg ∧ (rfWaitCarrierAssert s).cnt = s.cnt ∧
    (rfWaitCarrierAssert s).tickEn = s.tickEn ∧ (rfWaitCarrierAssert s).disp = s.disp ∧
    (rfWaitCarrierAssert s).ir = s.ir ∧ (rfWaitCarrierAssert s).res = s.res ∧
    (rfWaitCarrierAssert s).sys = s.sys ∧ (rfWaitCarrierAssert s).btnHold = s.btnHold ∧
    (rfWaitCarrierAssert s).iterPos = s.iterPos ∧ (rfWaitCarrierAssert s).flt = s.flt ∧
    (rfWaitCarrierAssert s).out = s.out ∧ (rfWaitCarrierAssert s).port = s.port := by
  unfold rfWaitCarrierAssert
  (repeat' split) <;> simp

@[simp] theorem rfWaitCarrierDeassert_frame :
    (rfWaitCarrierDeassert s).cfg = s.cfg ∧ (rfWaitCarrierDeassert s).tickEn = s.tickEn ∧
    (rfWaitCarrierDeassert s).disp = s.disp ∧ (rfWaitCarrierDeassert s).ir = s.ir ∧
    (rfWaitCarrierDeassert s).res = s.res ∧ (rfWaitCarrierDeassert s).sys = s.sys ∧
    (rfWaitCarrierDeassert s).btnHold = s.btnHold ∧ (rfWaitCarrierDeassert s).iterPos = s.iterPos ∧
    (rfWaitCarrierDeassert s).flt = s.flt ∧ (rfWaitCarrierDeassert s).out = s.out ∧
    (rfWaitCarrierDeassert s).port = s.port := by
  unfold rfWaitCarrierDeassert
  (repeat' split) <;> simp

@[simp] theorem rfWaitAck_frame :
    (rfWaitAck s).cfg = s.cfg ∧ (rfWaitAck s).cnt = s.cnt ∧ (rfWaitAck s).res = s.res ∧
    (rfWaitAck s).btnHold = s.btnHold ∧ (rfWaitAck s).iterPos = s.iterPos ∧ (rfWaitAck s).flt = s.flt ∧
    (rfWaitAck s).port = s.port ∧ (rfWaitAck s).disp.dig = s.disp.dig ∧
    (rfWaitAck s).disp.dirty = s.disp.dirty ∧ (rfWaitAck s).disp.setsel = s.disp.setsel ∧
    (rfWaitAck s).disp.frame = s.disp.frame := by
  unfold rfWaitAck
  dsimp only
  (repeat' split) <;> simp

@[simp] theorem radioStep_frame :
    (radioStep s).cfg = s.cfg ∧ (radioStep s).res = s.res ∧ (radioStep s).btnHold = s.btnHold ∧
    (radioStep s).iterPos = s.iterPos ∧ (radioStep s).flt = s.flt ∧ (radioStep s).port = s.port ∧
    (radioStep s).disp.dig = s.disp.dig ∧ (radioStep s).disp.dirty = s.disp.dirty ∧
    (radioStep s).disp.setsel = s.disp.setsel ∧ (radioStep s).disp.frame = s.disp.frame := by
  unfold radioStep
  (repeat' split) <;> simp

@[simp] theorem rfTimeoutPhase_frame :
    (rfTimeoutPhase s).cfg = s.cfg ∧ (rfTimeoutPhase s).cnt = s.cnt ∧ (rfTimeoutPhase s).tickEn = s.tickEn ∧
    (rfTimeoutPhase s).disp = s.disp ∧ (rfTimeoutPhase s).ir = s.ir ∧ (rfTimeoutPhase s).res = s.res ∧
    (rfTimeoutPhase s).sys = s.sys ∧ (rfTimeoutPhase s).btnHold = s.btnHold ∧
    (rfTimeoutPhase s).iterPos = s.iterPos ∧ (rfTimeoutPhase s).flt = s.flt ∧ (rfTimeoutPhase s).out = s.out ∧
    (rfTimeoutPhase s).env = s.env ∧ (rfTimeoutPhase s).port = s.port := by
  unfold rfTimeoutPhase
  (repeat' split) <;> simp

@[simp] theorem heartbeatPhase_frame :
    (heartbeatPhase s).cfg = s.cfg ∧ (heartbeatPhase s).cnt = s.cnt ∧ (heartbeatPhase s).tickEn = s.tickEn ∧
    (heartbeatPhase s).disp = s.disp ∧ (heartbeatPhase s).ir = s.ir ∧ (heartbeatPhase s).res = s.res ∧
    (heartbeatPhase s).sys = s.sys ∧ (heartbeatPhase s).btnHold = s.btnHold ∧
    (heartbeatPhase s).iterPos = s.iterPos ∧ (heartbeatPhase s).flt = s.flt ∧ (heartbeatPhase s).out = s.out ∧
    (heartbeatPhase s).env = s.env ∧ (heartbeatPhase s).port = s.port := by
  unfold heartbeatPhase
  dsimp only
  (repeat' split) <;> simp

@[simp] theorem driveOut_frame (k : Channel) (l : Bool) :
    (s.driveOut k l).cfg = s.cfg ∧ (s.driveOut k l).cnt = s.cnt ∧ (s.driveOut k l).tickEn = s.tickEn ∧
    (s.driveOut k l).disp = s.disp ∧ (s.driveOut k l).rf = s.rf ∧ (s.driveOut k l).res = s.res ∧
    (s.driveOut k l).sys = s.sys ∧ (s.driveOut k l).btnHold = s.btnHold ∧ (s.driveOut k l).iterPos = s.iterPos ∧
    (s.driveOut k l).flt = s.flt ∧ (s.driveOut k l).env = s.env ∧ (s.driveOut k l).port = s.port := by
  unfold State.driveOut
  split <;> simp

@[simp] theorem irIdle_frame (k : Channel) (c : Nat) :
    (irIdle k c s).cfg = s.cfg ∧ (irIdle k c s).disp = s.disp ∧ (irIdle k c s).tickEn = s.tickEn ∧
    (irIdle k c s).res = s.res ∧ (irIdle k c s).sys = s.sys ∧ (irIdle k c s).btnHold = s.btnHold ∧
    (irIdle k c s).iterPos = s.iterPos ∧ (irIdle k c s).flt = s.flt ∧ (irIdle k c s).port = s.port ∧
    (irIdle k c s).rf = s.rf := by
  unfold irIdle
  dsimp only
  (repeat' split) <;> simp

@[simp] theorem irWaitHigh_frame (k : Channel) (c : Nat) :
    (irWaitHigh k c s).cfg = s.cfg ∧ (irWaitHigh k c s).disp = s.disp ∧ (irWaitHigh k c s).tickEn = s.tickEn ∧
    (irWaitHigh k c s).res = s.res ∧ (irWaitHigh k c s).sys = s.sys ∧ (irWaitHigh k c s).btnHold = s.btnHold ∧
    (irWaitHigh k c s).iterPos = s.iterPos ∧ (irWaitHigh k c s).flt = s.flt ∧ (irWaitHigh k c s).port = s.port ∧
    (irWaitHigh k c s).rf = s.rf := by
  unfold irWaitHigh
  dsimp only
  (repeat' split) <;> simp

@[simp] theorem irAssert_frame (k : Channel) (c : Nat) :
    (irAssert k c s).cfg = s.cfg ∧ (irAssert k c s).disp = s.disp ∧ (irAssert k c s).tickEn = s.tickEn ∧
    (irAssert k c s).res = s.res ∧ (irAssert k c s).sys = s.sys ∧ (irAssert k c s).btnHold = s.btnHold ∧
    (irAssert k c s).iterPos = s.iterPos ∧ (irAssert k c s).flt = s.flt ∧ (irAssert k c s).port = s.port ∧
    (irAssert k c s).rf = s.rf := by
  unfold irAssert
  (repeat' split) <;> simp

@[simp] theorem irPulse_frame (k : Channel) (c : Nat) :
    (irPulse k c s).cfg = s.cfg ∧ (irPulse k c s).disp = s.disp ∧ (irPulse k c s).tickEn = s.tickEn ∧
    (irPulse k c s).res = s.res ∧ (irPulse k c s).sys = s.sys ∧ (irPulse k c s).btnHold = s.btnHold ∧
    (irPulse k c s).iterPos = s.iterPos ∧ (irPulse k c s).flt = s.flt ∧ (irPulse k c s).port = s.port ∧
    (irPulse k c s).rf = s.rf := by
  unfold irPulse
  (repeat' split) <;> simp

@[simp] theorem irGuard_frame (k : Channel) (c : Nat) :
    (irGuard k c s).cfg = s.cfg ∧ (irGuard k c s).disp = s.disp ∧ (irGuard k c s).tickEn = s.tickEn ∧
    (irGuard k c s).res = s.res ∧ (irGuard k c s).sys = s.sys ∧ (irGuard k c s).btnHold = s.btnHold ∧
    (irGuard k c s).iterPos = s.iterPos ∧ (irGuard k c s).flt = s.flt ∧ (irGuard k c s).port = s.port ∧
    (irGuard k c s).rf = s.rf := by
  unfold irGuard
  (repeat' split) <;> simp

@[simp] theorem irWaitNext_frame (k : Channel) (c : Nat) :
    (irWaitNext k c s).cfg = s.cfg ∧ (irWaitNext k c s).disp = s.disp ∧ (irWaitNext k c s).tickEn = s.tickEn ∧
    (irWaitNext k c s).res = s.res ∧ (irWaitNext k c s).sys = s.sys ∧ (irWaitNext k c s).btnHold = s.btnHold ∧
    (irWaitNext k c s).iterPos = s.iterPos ∧ (irWaitNext k c s).flt = s.flt ∧ (irWaitNext k c s).port = s.port ∧
    (irWaitNext k c s).rf = s.rf := by
  unfold irWaitNext
  dsimp only
  (repeat' split) <;> simp

@[simp] theorem irConnected_frame :
    (irConnected s).cfg = s.cfg ∧ (irConnected s).disp = s.disp ∧ (irConnected s).tickEn = s.tickEn ∧
    (irConnected s).res = s.res ∧ (irConnected s).sys = s.sys ∧ (irConnected s).btnHold = s.btnHold ∧
    (irConnected s).iterPos = s.iterPos ∧ (irConnected s).flt = s.flt ∧ (irConnected s).port = s.port ∧
    (irConnected s).rf = s.rf := by
  simp [irConnected]

@[simp] theorem peerLostCheck_frame :
    (peerLostCheck s).cfg = s.cfg ∧ (peerLostCheck s).disp = s.disp ∧ (peerLostCheck s).tickEn = s.tickEn ∧
    (peerLostCheck s).res = s.res ∧ (peerLostCheck s).sys = s.sys ∧ (peerLostCheck s).btnHold = s.btnHold ∧
    (peerLostCheck s).iterPos = s.iterPos ∧ (peerLostCheck s).flt = s.flt ∧ (peerLostCheck s).port = s.port ∧
    (peerLostCheck s).cnt = s.cnt ∧ (peerLostCheck s).env = s.env := by
  unfold peerLostCheck
  dsimp only
  (repeat' split) <;> simp

@[simp] theorem irError_frame :
    (irError s).cfg = s.cfg ∧ (irError s).disp = s.disp ∧ (irError s).tickEn = s.tickEn ∧
    (irError s).res = s.res ∧ (irError s).sys = s.sys ∧ (irError s).btnHold = s.btnHold ∧
    (irError s).iterPos = s.iterPos ∧ (irError s).flt = s.flt ∧ (irError s).port = s.port := by
  simp [irError]

@[simp] theorem signalStep_frame :
    (signalStep s).cfg = s.cfg ∧ (signalStep s).disp = s.disp ∧ (signalStep s).tickEn = s.tickEn ∧
    (signalStep s).res = s.res ∧ (signalStep s).sys = s.sys ∧ (signalStep s).btnHold = s.btnHold ∧
    (signalStep s).iterPos = s.iterPos ∧ (signalStep s).flt = s.flt ∧ (signalStep s).port = s.port := by
  unfold signalStep
  dsimp only
  split <;> simp

@[simp] theorem displayPhase_frame :
    (displayPhase s).cfg = s.cfg ∧ (displayPhase s).tickEn = s.tickEn ∧ (displayPhase s).ir = s.ir ∧
    (displayPhase s).rf = s.rf ∧ (displayPhase s).res = s.res ∧ (displayPhase s).sys = s.sys ∧
    (displayPhase s).btnHold = s.btnHold ∧ (displayPhase s).iterPos = s.iterPos ∧ (displayPhase s).flt = s.flt ∧
    (displayPhase s).env = s.env ∧ (displayPhase s).port = s.port ∧ (displayPhase s).disp.dig = s.disp.dig ∧
    (displayPhase s).disp.dirty = s.disp.dirty ∧ (displayPhase s).disp.setsel = s.disp.setsel ∧
    (displayPhase s).disp.frame = s.disp.frame := by
  unfold displayPhase
  (repeat' split) <;> simp

@[simp] theorem phase1ms_frame :
    (phase1ms s).cfg = s.cfg ∧ (phase1ms s).tickEn = s.tickEn ∧ (phase1ms s).disp = s.disp ∧
    (phase1ms s).ir = s.ir ∧ (phase1ms s).rf = s.rf ∧ (phase1ms s).res = s.res ∧ (phase1ms s).sys = s.sys ∧
    (phase1ms s).btnHold = s.btnHold ∧ (phase1ms s).iterPos = s.iterPos ∧ (phase1ms s).flt = s.flt ∧
    (phase1ms s).env = s.env ∧ (phase1ms s).port = s.port := by
  unfold phase1ms
  (repeat' split) <;> simp

@[simp] theorem buttonHeld_frame :
    (buttonHeld s).cfg = s.cfg ∧ (buttonHeld s).cnt = s.cnt ∧ (buttonHeld s).res = s.res ∧
    (buttonHeld s).iterPos = s.iterPos ∧ (buttonHeld s).flt = s.flt ∧ (buttonHeld s).env = s.env ∧
    (buttonHeld s).port = s.port ∧ (buttonHeld s).disp.dig = s.disp.dig ∧
    (buttonHeld s).disp.dirty = s.disp.dirty ∧ (buttonHeld s).disp.setsel = s.disp.setsel ∧
    (buttonHeld s).disp.frame = s.disp.frame := by
  unfold buttonHeld
  dsimp only
  (repeat' split) <;> simp

@[simp] theorem phase10ms_frame :
    (phase10ms s).cfg = s.cfg ∧ (phase10ms s).res = s.res ∧ (phase10ms s).iterPos = s.iterPos ∧
    (phase10ms s).flt = s.flt ∧ (phase10ms s).port = s.port ∧ (phase10ms s).disp.dig = s.disp.dig ∧
    (phase10ms s).disp.dirty = s.disp.dirty ∧ (phase10ms s).disp.setsel = s.disp.setsel ∧
    (phase10ms s).disp.frame = s.disp.frame := by
  unfold phase10ms
  dsimp only
  (repeat' split) <;> simp

@[simp] theorem cooldownPhase_frame :
    (cooldownPhase s).cfg = s.cfg ∧ (cooldownPhase s).cnt = s.cnt ∧ (cooldownPhase s).tickEn = s.tickEn ∧
    (cooldownPhase s).disp = s.disp ∧ (cooldownPhase s).rf = s.rf ∧ (cooldownPhase s).res = s.res ∧
    (cooldownPhase s).sys = s.sys ∧ (cooldownPhase s).btnHold = s.btnHold ∧
    (cooldownPhase s).iterPos = s.iterPos ∧ (cooldownPhase s).flt = s.flt ∧ (cooldownPhase s).out = s.out ∧
    (cooldownPhase s).env = s.env ∧ (cooldownPhase s).port = s.port := by
  unfold cooldownPhase
  (repeat' split) <;> simp

@[simp] theorem phase50ms_frame :
    (phase50ms s).cfg = s.cfg ∧ (phase50ms s).res = s.res ∧ (phase50ms s).btnHold = s.btnHold ∧
    (phase50ms s).iterPos = s.iterPos ∧ (phase50ms s).port = s.port := by
  unfold phase50ms
  dsimp only
  (repeat' split) <;> simp

@[simp] theorem componentStep_frame (p : Fin 6) :
    (componentStep p s).cfg = s.cfg ∧ (componentStep p s).res = s.res ∧
    (componentStep p s).iterPos = s.iterPos ∧ (componentStep p s).port = s.port := by
  unfold componentStep
  split <;> simp

@[simp] theorem schedulerStep_frame :
    (schedulerStep s).cfg = s.cfg ∧ (schedulerStep s).res = s.res ∧ (schedulerStep s).port = s.port := by
  unfold schedulerStep
  (repeat' split) <;> simp

@[simp] theorem bootStep_frame :
    (bootStep s).cfg = s.cfg ∧ (bootStep s).cnt = s.cnt ∧ (bootStep s).disp = s.disp ∧ (bootStep s).ir = s.ir ∧
    (bootStep s).res = s.res ∧ (bootStep s).btnHold = s.btnHold ∧ (bootStep s).iterPos = s.iterPos ∧
    (bootStep s).port = s.port := by
  unfold bootStep
  dsimp only
  (repeat' split) <;> simp

@[simp] theorem releaseWait_frame :
    (releaseWait s).cfg = s.cfg ∧ (releaseWait s).cnt = s.cnt ∧ (releaseWait s).tickEn = s.tickEn ∧
    (releaseWait s).disp = s.disp ∧ (releaseWait s).ir = s.ir ∧ (releaseWait s).rf = s.rf ∧
    (releaseWait s).res = s.res ∧ (releaseWait s).btnHold = s.btnHold ∧ (releaseWait s).iterPos = s.iterPos ∧
    (releaseWait s).flt = s.flt ∧ (releaseWait s).port = s.port := by
  unfold releaseWait
  (repeat' split) <;> simp

@[simp] theorem tickStep_frame :
    (tickStep s).cfg = s.cfg ∧ (tickStep s).tickEn = s.tickEn ∧ (tickStep s).disp = s.disp ∧
    (tickStep s).ir = s.ir ∧ (tickStep s).rf = s.rf ∧ (tickStep s).res = s.res ∧ (tickStep s).sys = s.sys ∧
    (tickStep s).btnHold = s.btnHold ∧ (tickStep s).iterPos = s.iterPos ∧ (tickStep s).flt = s.flt ∧
    (tickStep s).out = s.out ∧ (tickStep s).env = s.env ∧ (tickStep s).port = s.port := by
  unfold tickStep
  (repeat' split) <;> simp

end Sys2Proof.Laws
end

