-- ==== Sys2Proof/Laws/Flags.lean ====
section
/-! SUPPORT. Each condition of Machine/Flags.lean as a proposition, once for true and once for false. -/

namespace Sys2Proof.Laws

open Sys2Proof.Machine

variable (s : State)

@[simp] theorem reached_eq_true (v thr : Nat) : reached v thr = true ↔ thr ≤ v := by simp [reached]

@[simp] theorem reached_eq_false (v thr : Nat) : reached v thr = false ↔ v < thr := by simp [reached]

theorem endAssert_eq (c : Config) : endAssert c = c.tAssert := rfl

theorem endPulse_eq (c : Config) : endPulse c = c.tAssert + c.tPulse := rfl

theorem endGuard_eq (c : Config) : endGuard c = c.tAssert + c.tPulse + c.tGuard := rfl

theorem recomputeDue_eq_true :
    s.recomputeDue = true ↔ s.disp.dirty = true ∧ s.cfg.frameBits < s.disp.bitIdx.toNat := by
  simp [State.recomputeDue]

theorem recomputeDue_eq_false :
    s.recomputeDue = false ↔ s.disp.dirty = false ∨ s.disp.bitIdx.toNat ≤ s.cfg.frameBits := by
  rw [← Bool.not_eq_true, recomputeDue_eq_true, not_and_or]
  simp

theorem peerLostDue_eq_true : s.peerLostDue = true ↔
    s.ir.brokenThresh.toNat ≤ s.ir.broken.toNat ∧ s.ir.lostLatch = false ∧ s.ir.cooldown = 0 := by
  simp [State.peerLostDue, and_assoc]

theorem sendAccepted_eq_true : s.sendAccepted = true ↔
    s.cfg.rfEnable = true ∧ s.rf.configured = true ∧ s.sys = .run ∧ s.rf.state = .idle := by
  simp [State.sendAccepted, and_assoc]

theorem sendTimedOut_eq_true : s.sendTimedOut = true ↔
    s.cfg.rfTimeout50ms ≠ 0 ∧ s.cfg.rfTimeout50ms.toNat ≤ s.rf.timeout.toNat := by
  simp [State.sendTimedOut]

theorem sendTimedOut_eq_false : s.sendTimedOut = false ↔
    s.cfg.rfTimeout50ms = 0 ∨ s.rf.timeout.toNat < s.cfg.rfTimeout50ms.toNat := by
  rw [← Bool.not_eq_true, sendTimedOut_eq_true, not_and_or]
  simp

theorem failuresExceeded_eq_true : s.failuresExceeded = true ↔ s.cfg.failCeil.toNat < s.rf.fails.toNat := by
  simp [State.failuresExceeded]

theorem heartbeatDue_eq_true : s.heartbeatDue = true ↔
    s.cfg.heartbeat50ms.toNat ≤ s.rf.idleLink.toNat ∧ s.rf.state = .idle := by
  simp [State.heartbeatDue]

theorem holdReached_eq_true : s.holdReached = true ↔ s.cfg.btnHoldThresh.toNat ≤ s.btnHold.toNat := by
  simp [State.holdReached]

theorem configBarred_eq_true : s.configBarred = true ↔ s.cfg.rfEnable = false ∨ s.rf.configured = true := by
  simp [State.configBarred]

/-- The port is served exactly in BOOT and RUN (R130, R349). -/
theorem portServed_eq_true : s.portServed = true ↔ s.sys = .boot ∨ s.sys = .run := by
  unfold State.portServed
  cases s.sys <;> simp

/-- The port is not served exactly in SD_WAIT and HALTED. -/
theorem portServed_eq_false : s.portServed = false ↔ s.sys = .sdWait ∨ s.sys = .halted := by
  unfold State.portServed
  cases s.sys <;> simp

end Sys2Proof.Laws
end

