-- ==== Sys2Proof/Laws/Display.lean ====
section
/-! SUPPORT. What the display's operations do, once each: a bit shifted out, a run of zero bits, the blanking of the
display and the shutdown sequence that contains it, and the contribution of one position to the frame. -/

namespace Sys2Proof.Laws

open Sys2Proof.Machine

theorem scanTrace_append (a b : List Bool) : scanTrace (a ++ b) = scanTrace a ++ scanTrace b := by
  simp [scanTrace]

/-- One bit shifted out (R207, R209, R210). -/
theorem shiftOut_eq (s : State) (b : Bool) : s.shiftOut b =
    { s with disp := { s.disp with ser := b, srclk := false, srShift := shiftIn s.cfg.frameBits s.disp.srShift b },
             out := { s.out with pins := s.out.pins ++ scanTrace [b] } } := by
  simp [State.shiftOut, State.pulse, State.pinWrite, State.drivePin, State.risingEdge, scanTrace]

/-- One latch pulse (R207, R209, R210). -/
theorem latch_eq (s : State) : s.pulse .dspRclk =
    { s with disp := { s.disp with rclk := false, srLatch := s.disp.srShift },
             out := { s.out with pins := s.out.pins ++ latchTrace } } := by
  simp [State.pulse, State.pinWrite, State.drivePin, State.risingEdge, latchTrace]

/-- A run of zero bits shifts zeros in. -/
theorem shiftZeros_succ_eq (s : State) (n : Nat) : s.shiftZeros (n + 1) =
    { s with disp := { s.disp with ser := false, srclk := false,
                                   srShift := s.disp.srShift <<< (n + 1) % 2 ^ s.cfg.frameBits },
             out := { s.out with pins := s.out.pins ++ scanTrace (List.replicate (n + 1) false) } } := by
  induction n generalizing s with
  | zero => simp [State.shiftZeros, shiftOut_eq, shiftIn]
  | succ n ih =>
    rw [State.shiftZeros, ih, shiftOut_eq,
      show List.replicate (n + 1 + 1) false = [false] ++ List.replicate (n + 1) false by simp [List.replicate_succ],
      scanTrace_append]
    simp [shiftIn]
    rw [Nat.shiftLeft_eq, Nat.shiftLeft_eq, Nat.shiftLeft_eq, Nat.mod_mul_mod, Nat.mul_assoc]
    congr 2
    rw [show n + 1 + 1 = 1 + (n + 1) by omega, Nat.pow_add 2 1 (n + 1)]

/-- `turnOff()` whole (R209): the display is blank whatever the shift register held. -/
theorem turnOff_eq (s : State) (h : 1 ≤ s.cfg.frameBits) : turnOff s =
    { s with disp := { s.disp with ser := false, srclk := false, rclk := false, srShift := 0, srLatch := 0,
                                   bitIdx := scanComplete s.cfg },
             out := { s.out with
                        pins := s.out.pins ++ scanTrace (List.replicate s.cfg.frameBits false) ++ latchTrace } } := by
  obtain ⟨n, hn⟩ : ∃ n, s.cfg.frameBits = n + 1 := ⟨s.cfg.frameBits - 1, by omega⟩
  unfold turnOff
  rw [hn, shiftZeros_succ_eq, latch_eq]
  simp [State.setBitIdx, hn, Nat.shiftLeft_eq]

/-- `Shutdown()` runs its body in BOOT and RUN and nothing otherwise (R365). -/
theorem shutdownSeq_cases (s : State) :
    (s.live ∧ shutdownSeq s = shutdownBody s) ∨ (s.shutDown ∧ shutdownSeq s = s) := by
  unfold shutdownSeq State.live State.shutDown
  split <;> simp [*]

/-- A position's bit of the frame (R206). -/
theorem testBit_segmentBits (row : Vector Nat 10) (dpMask : Nat) (suppress dp : Bool) (v : Fin 10) (j : Nat) :
    (segmentBits row dpMask suppress dp v).testBit j =
      ((!(decide (v = 0) && suppress) && row[v].testBit j) || (dp && dpMask.testBit j)) := by
  unfold segmentBits
  rw [Nat.testBit_or]
  cases suppress <;> cases dp <;> by_cases h : v = 0 <;> simp [h]

/-- A digit indexes its row exactly when it is at most 9 (R206). -/
theorem digitIndex_of_le {d : Byte} (h : d.toNat < 10) : digitIndex d = some ⟨d.toNat, h⟩ := by
  simp [digitIndex, h]

theorem digitIndex_of_gt {d : Byte} (h : 9 < d.toNat) : digitIndex d = none := by
  unfold digitIndex
  rw [dif_neg (by omega)]

/-- FAULT_INFO of DIGIT_RANGE is the value times 256 plus the position (R403). -/
theorem digitFaultInfo_eq (d : Byte) (p : Nat) (hp : p < 256) :
    digitFaultInfo d p = BitVec.ofNat 64 (d.toNat * 256 + p) := by
  unfold digitFaultInfo
  rw [← Nat.shiftLeft_add_eq_or_of_lt (by simpa using hp), Nat.shiftLeft_eq]

end Sys2Proof.Laws
end

