-- ==== Sys2Proof/Laws/Encoding.lean ====
section
/-! SUPPORT. The fields of a packed word (R131), a word put together again from its fields, and masks of a packed word
taken field by field (R138). -/

namespace Sys2Proof.Laws

open Sys2Proof Sys2Proof.Machine

variable (opc a : Byte) (q : Quad Byte) (t : Half)

@[simp] theorem fieldOpc_packWord : fieldOpc (packWord opc a q t) = opc := by
  unfold fieldOpc packWord
  ext j hj
  simp
  grind

@[simp] theorem fieldA_packWord : fieldA (packWord opc a q t) = a := by
  unfold fieldA packWord
  ext j hj
  simp
  grind

@[simp] theorem fieldT_packWord : fieldT (packWord opc a q t) = t := by
  unfold fieldT packWord
  ext j hj
  simp
  grind

theorem extract_packWord_q0 : (packWord opc a q t).extractLsb' 16 8 = q.q0 := by
  unfold packWord
  ext j hj
  simp
  grind

theorem extract_packWord_q1 : (packWord opc a q t).extractLsb' 24 8 = q.q1 := by
  unfold packWord
  ext j hj
  simp
  grind

theorem extract_packWord_q2 : (packWord opc a q t).extractLsb' 32 8 = q.q2 := by
  unfold packWord
  ext j hj
  simp
  grind

theorem extract_packWord_q3 : (packWord opc a q t).extractLsb' 40 8 = q.q3 := by
  unfold packWord
  ext j hj
  simp
  grind

@[simp] theorem fieldQuad_packWord : fieldQuad (packWord opc a q t) = q := by
  simp [fieldQuad, extract_packWord_q0, extract_packWord_q1, extract_packWord_q2, extract_packWord_q3]

@[simp] theorem fieldQ0_packWord : fieldQ0 (packWord opc a q t) = q.q0 := extract_packWord_q0 opc a q t

/-- A word is its fields put together (R131). -/
theorem packWord_fields (w : Word) : packWord (fieldOpc w) (fieldA w) (fieldQuad w) (fieldT w) = w := by
  unfold packWord fieldOpc fieldA fieldQuad fieldT
  ext j hj
  simp
  grind

/-- A mask of a packed word, field by field. -/
theorem packWord_and (opc' a' : Byte) (q' : Quad Byte) (t' : Half) :
    packWord opc a q t &&& packWord opc' a' q' t' =
      packWord (opc &&& opc') (a &&& a')
        ⟨q.q0 &&& q'.q0, q.q1 &&& q'.q1, q.q2 &&& q'.q2, q.q3 &&& q'.q3⟩ (t &&& t') := by
  unfold packWord
  erw [BitVec.and_append, BitVec.and_append, BitVec.and_append, BitVec.and_append, BitVec.and_append,
    BitVec.and_append]

/-- Packed words are equal exactly when their fields are. -/
theorem packWord_inj (opc' a' : Byte) (q' : Quad Byte) (t' : Half) :
    packWord opc a q t = packWord opc' a' q' t' ↔ opc = opc' ∧ a = a' ∧ q = q' ∧ t = t' := by
  constructor
  · intro h
    exact ⟨by simpa using congrArg fieldOpc h, by simpa using congrArg fieldA h,
      by simpa using congrArg fieldQuad h, by simpa using congrArg fieldT h⟩
  · rintro ⟨rfl, rfl, rfl, rfl⟩
    rfl

/-- A mask test of a word, field by field. -/
theorem word_and_eq_zero (w m : Word) : w &&& m = 0 ↔ fieldOpc w &&& fieldOpc m = 0 ∧ fieldA w &&& fieldA m = 0 ∧
    ((fieldQuad w).q0 &&& (fieldQuad m).q0 = 0 ∧ (fieldQuad w).q1 &&& (fieldQuad m).q1 = 0 ∧
      (fieldQuad w).q2 &&& (fieldQuad m).q2 = 0 ∧ (fieldQuad w).q3 &&& (fieldQuad m).q3 = 0) ∧
    fieldT w &&& fieldT m = 0 := by
  have quad (x y : Quad Byte) : x = y ↔ x.q0 = y.q0 ∧ x.q1 = y.q1 ∧ x.q2 = y.q2 ∧ x.q3 = y.q3 := by
    cases x; cases y; simp
  conv_lhs => rw [← packWord_fields w, ← packWord_fields m, packWord_and,
    show (0 : Word) = packWord 0 0 zeroQuad 0 by decide, packWord_inj, quad]
  rfl

/-- The reserved bits of each format, as a packed word: the complement of the may-be-nonzero mask (R138). -/
theorem reservedMask (fmt : Format) : ~~~(fieldMask fmt) =
    match fmt with
    | .n => packWord 0 255 ⟨255, 255, 255, 255⟩ 65535
    | .i => packWord 0 0 ⟨255, 255, 255, 255⟩ 65535
    | .it => packWord 0 0 ⟨255, 255, 255, 255⟩ 0
    | .q => packWord 0 255 ⟨0, 0, 0, 0⟩ 65535
    | .f => packWord 0 0xFC ⟨255, 255, 255, 255⟩ 65535
    | .p => packWord 0 0 ⟨0, 255, 255, 255⟩ 65535 := by
  cases fmt <;> decide

/-- R138's mask test is R132's field test. -/
theorem reserved_iff (fmt : Format) (w : Word) : w &&& ~~~(fieldMask fmt) = 0 ↔ reservedZero fmt w := by
  have all8 (x : Byte) : x &&& 255#8 = x := by rw [show 255#8 = BitVec.allOnes 8 from rfl, BitVec.and_allOnes]
  have all16 (x : Half) : x &&& 65535#16 = x := by
    rw [show 65535#16 = BitVec.allOnes 16 from rfl, BitVec.and_allOnes]
  have quad (x : Quad Byte) : x = zeroQuad ↔ x.q0 = 0 ∧ x.q1 = 0 ∧ x.q2 = 0 ∧ x.q3 = 0 := by
    cases x; simp [zeroQuad]
  rw [word_and_eq_zero, reservedMask]
  cases fmt <;> simp [reservedZero, all8, all16, quad, and_assoc]

end Sys2Proof.Laws
end

