-- ==== Sys2Proof/Laws/PerInstr.lean ====
section
/-! SUPPORT. The encoder against spec/opcode_table.json, one lemma a constructor: the word of a command has exactly the
match value of its row under the row's mask (R138). -/

namespace Sys2Proof.Laws.EncodeMatchesTable

open Sys2Proof

/-- The mask of the command's row in spec/opcode_table.json. -/
def tableMask : Instr → Word
  | .nop => 0xFFFFFFFFFFFFFFFF#64
  | .tick => 0xFFFFFFFFFFFFFFFF#64
  | .cntRd _ => 0xFF00FFFFFFFFFFFF#64
  | .cntClr _ => 0xFF00FFFFFFFFFFFF#64
  | .cntRdclr _ => 0xFF00FFFFFFFFFFFF#64
  | .cntChkrst _ _ => 0xFF00FFFFFFFF0000#64
  | .dispInc _ => 0xFFFF00000000FFFF#64
  | .dispZero => 0xFFFFFFFFFFFFFFFF#64
  | .dispSet _ => 0xFFFF00000000FFFF#64
  | .dispDirty => 0xFFFFFFFFFFFFFFFF#64
  | .dispSettings _ => 0xFF00FFFFFFFFFFFF#64
  | .dispValue => 0xFFFFFFFFFFFFFFFF#64
  | .dispAdv => 0xFFFFFFFFFFFFFFFF#64
  | .dispRecomp => 0xFFFFFFFFFFFFFFFF#64
  | .dispOff => 0xFFFFFFFFFFFFFFFF#64
  | .irStep => 0xFFFFFFFFFFFFFFFF#64
  | .irParams _ _ => 0xFF00FFFFFF00FFFF#64
  | .rfConfig => 0xFFFFFFFFFFFFFFFF#64
  | .rfSend _ _ => 0xFFFCFFFFFFFFFFFF#64
  | .rfStep => 0xFFFFFFFFFFFFFFFF#64
  | .schedStep => 0xFFFFFFFFFFFFFFFF#64
  | .phDisp => 0xFFFFFFFFFFFFFFFF#64
  | .ph1ms => 0xFFFFFFFFFFFFFFFF#64
  | .ph10ms => 0xFFFFFFFFFFFFFFFF#64
  | .ph50ms => 0xFFFFFFFFFFFFFFFF#64
  | .shutdown => 0xFFFFFFFFFFFFFFFF#64
  | .boot => 0xFFFFFFFFFFFFFFFF#64

/-- The match value of the command's row in spec/opcode_table.json. -/
def tableMatch : Instr → Word
  | .nop => 0x0000000000000000#64
  | .tick => 0x0100000000000000#64
  | .cntRd _ => 0x1000000000000000#64
  | .cntClr _ => 0x1100000000000000#64
  | .cntRdclr _ => 0x1200000000000000#64
  | .cntChkrst _ _ => 0x1300000000000000#64
  | .dispInc _ => 0x2000000000000000#64
  | .dispZero => 0x2100000000000000#64
  | .dispSet _ => 0x2200000000000000#64
  | .dispDirty => 0x2300000000000000#64
  | .dispSettings _ => 0x2400000000000000#64
  | .dispValue => 0x2500000000000000#64
  | .dispAdv => 0x2600000000000000#64
  | .dispRecomp => 0x2700000000000000#64
  | .dispOff => 0x2800000000000000#64
  | .irStep => 0x3000000000000000#64
  | .irParams _ _ => 0x3100000000000000#64
  | .rfConfig => 0x4000000000000000#64
  | .rfSend _ _ => 0x4100000000000000#64
  | .rfStep => 0x4200000000000000#64
  | .schedStep => 0x5000000000000000#64
  | .phDisp => 0x5100000000000000#64
  | .ph1ms => 0x5200000000000000#64
  | .ph10ms => 0x5300000000000000#64
  | .ph50ms => 0x5400000000000000#64
  | .shutdown => 0x5E00000000000000#64
  | .boot => 0x5F00000000000000#64

/-- The command's word matches its own row of the table (R138). -/
def Statement (i : Instr) : Prop := encode i &&& tableMask i = tableMatch i

theorem nop : Statement .nop := by unfold Statement; decide

theorem tick : Statement .tick := by unfold Statement; decide

theorem cntRd (i : Byte) : Statement (.cntRd i) := by
  simp only [Statement, encode, packI, tableMask, tableMatch]
  rw [show (0xFF00FFFFFFFFFFFF#64 : Word) = packWord 255 0 ⟨255, 255, 255, 255⟩ 65535 by decide, packWord_and]
  simp [zeroQuad]
  decide

theorem cntClr (i : Byte) : Statement (.cntClr i) := by
  simp only [Statement, encode, packI, tableMask, tableMatch]
  rw [show (0xFF00FFFFFFFFFFFF#64 : Word) = packWord 255 0 ⟨255, 255, 255, 255⟩ 65535 by decide, packWord_and]
  simp [zeroQuad]
  decide

theorem cntRdclr (i : Byte) : Statement (.cntRdclr i) := by
  simp only [Statement, encode, packI, tableMask, tableMatch]
  rw [show (0xFF00FFFFFFFFFFFF#64 : Word) = packWord 255 0 ⟨255, 255, 255, 255⟩ 65535 by decide, packWord_and]
  simp [zeroQuad]
  decide

theorem cntChkrst (i : Byte) (thr : Half) : Statement (.cntChkrst i thr) := by
  simp only [Statement, encode, tableMask, tableMatch]
  rw [show (0xFF00FFFFFFFF0000#64 : Word) = packWord 255 0 ⟨255, 255, 255, 255⟩ 0 by decide, packWord_and]
  simp [zeroQuad]
  decide

theorem dispInc (m : Quad Byte) : Statement (.dispInc m) := by
  simp only [Statement, encode, tableMask, tableMatch]
  rw [show (0xFFFF00000000FFFF#64 : Word) = packWord 255 255 ⟨0, 0, 0, 0⟩ 65535 by decide, packWord_and]
  simp
  decide

theorem dispZero : Statement .dispZero := by unfold Statement; decide

theorem dispSet (d : Quad Byte) : Statement (.dispSet d) := by
  simp only [Statement, encode, tableMask, tableMatch]
  rw [show (0xFFFF00000000FFFF#64 : Word) = packWord 255 255 ⟨0, 0, 0, 0⟩ 65535 by decide, packWord_and]
  simp
  decide

theorem dispDirty : Statement .dispDirty := by unfold Statement; decide

theorem dispSettings (k : Byte) : Statement (.dispSettings k) := by
  simp only [Statement, encode, packI, tableMask, tableMatch]
  rw [show (0xFF00FFFFFFFFFFFF#64 : Word) = packWord 255 0 ⟨255, 255, 255, 255⟩ 65535 by decide, packWord_and]
  simp [zeroQuad]
  decide

theorem dispValue : Statement .dispValue := by unfold Statement; decide

theorem dispAdv : Statement .dispAdv := by unfold Statement; decide

theorem dispRecomp : Statement .dispRecomp := by unfold Statement; decide

theorem dispOff : Statement .dispOff := by unfold Statement; decide

theorem irStep : Statement .irStep := by unfold Statement; decide

theorem irParams (thresh : Byte) (delay : Byte) : Statement (.irParams thresh delay) := by
  simp only [Statement, encode, tableMask, tableMatch]
  rw [show (0xFF00FFFFFF00FFFF#64 : Word) = packWord 255 0 ⟨0, 255, 255, 255⟩ 65535 by decide, packWord_and]
  simp
  decide

theorem rfConfig : Statement .rfConfig := by unfold Statement; decide

theorem rfSend (btn sig : Bool) : Statement (.rfSend btn sig) := by
  unfold Statement
  cases btn <;> cases sig <;> decide

theorem rfStep : Statement .rfStep := by unfold Statement; decide

theorem schedStep : Statement .schedStep := by unfold Statement; decide

theorem phDisp : Statement .phDisp := by unfold Statement; decide

theorem ph1ms : Statement .ph1ms := by unfold Statement; decide

theorem ph10ms : Statement .ph10ms := by unfold Statement; decide

theorem ph50ms : Statement .ph50ms := by unfold Statement; decide

theorem shutdown : Statement .shutdown := by unfold Statement; decide

theorem boot : Statement .boot := by unfold Statement; decide

end Sys2Proof.Laws.EncodeMatchesTable
end

