-- ==== Sys2Proof/Laws/Step.lean ====
section
/-! SUPPORT. What a step can do, once: every command answers a next state, and a step is one agent's step. -/

namespace Sys2Proof.Laws

open Sys2Proof.Machine

/-- The effects of the commands, by family (R134): what exec can answer from `s`. -/
inductive Effect (s : State) : State → Prop where
  | same : Effect s s
  | tick : Effect s (tickStep s)
  | fault (c : Cause) (w : Word) : Effect s (s.raiseFault c w)
  | result (v : Result) : Effect s (s.setRes v)
  | clear (n : Nat) : Effect s (s.clearCounter n)
  | resultClear (v : Result) (n : Nat) : Effect s ((s.setRes v).clearCounter n)
  | clearResult (v : Result) (n : Nat) : Effect s ((s.clearCounter n).setRes v)
  | increase (d : Quad Byte) (v : Result) : Effect s (((s.setDigits d).setDirty true).setRes v)
  | zero (d : Quad Byte) : Effect s ((s.setDigits d).setDirty true)
  | digits (d : Quad Byte) : Effect s (s.setDigits d)
  | dirty : Effect s (s.setDirty true)
  | slot (k : Byte) (h : k.toNat < s.cfg.numSettings) : Effect s { s with disp := { s.disp with setsel := k } }
  | advance : Effect s (advanceScan s)
  | recompute : Effect s (recomputeFrame s)
  | off : Effect s (turnOff s)
  | signal : Effect s (signalStep s)
  | params (a b : Byte) : Effect s { s with ir := { s.ir with brokenThresh := a, irDelay := b } }
  | configure (h : s.cfg.rfEnable = true) : Effect s (configureRadio s)
  | send (b g : Bool) (v : Result) : Effect s ((sendPacket b g s).setRes v)
  | radio : Effect s (radioStep s)
  | scheduler : Effect s (schedulerStep s)
  | display : Effect s (displayPhase s)
  | ms1 : Effect s (phase1ms s)
  | ms10 : Effect s (phase10ms s)
  | ms50 : Effect s (phase50ms s)
  | shutdown : Effect s (shutdownSeq s)
  | boot : Effect s (bootStep s)

/-- Every command has one of the effects. -/
theorem exec_effect {i : Instr} {s t : State} (h : exec i s = .next t) : Effect s t := by
  cases i <;> simp only [exec, execNop, execTick, execCntRd, execCntClr, execCntRdclr, execCntChkrst, execDispInc,
    execDispZero, execDispSet, execDispDirty, execDispSettings, execDispValue, execDispAdv, execDispRecomp,
    execDispOff, execIrStep, execIrParams, execRfConfig, execRfSend, execRfStep, execSchedStep, execPhDisp,
    execPh1ms, execPh10ms, execPh50ms, execShutdown, execBoot, Host.Outcome.next.injEq] at h <;> subst h
  case dispSettings k =>
    split
    · constructor
    · next h => exact .slot k (Nat.lt_of_not_le h)
  case rfConfig =>
    split
    · constructor
    · next h => exact .configure (by simp_all [State.configBarred])
  all_goals first
    | constructor
    | (split <;> first | constructor | (split <;> constructor))

/-! ### Runs of commands -/

theorem execList_single (i : Instr) (s : State) : execList [i] s = exec i s := by
  simp only [execList]
  split <;> simp_all

/-- A run that completes is followed by the rest of the list. -/
theorem execList_append {a b : List Instr} {s t : State} (h : execList a s = .next t) :
    execList (a ++ b) s = execList b t := by
  induction a generalizing s with
  | nil => cases h; rfl
  | cons i a ih =>
    simp only [execList, List.cons_append] at h ⊢
    split at h
    · exact ih h
    · cases h
    · cases h

/-- A run whose first command completes. -/
theorem execList_cons {i : Instr} {l : List Instr} {s t : State} (h : exec i s = .next t) :
    execList (i :: l) s = execList l t := by
  simp [execList, h]

/-! ### Steps -/

/-- A step is the chosen agent's step, from the state with the turn taken (R6, R113, R349, R130). -/
theorem step_cases {s t : State} (h : step s = .next t) :
    t = s.turnTaken ∨ t = tickStep s.turnTaken ∨ (s.sys = .boot ∧ t = bootStep s.turnTaken) ∨
    (s.sys = .run ∧ t = schedulerStep s.turnTaken) ∨ (s.sys = .sdWait ∧ t = releaseWait s.turnTaken) ∨
    (s.live ∧ ∃ c w, t = s.turnTaken.accepted.raiseFault c w) ∨
    (s.live ∧ ∃ i, exec i s.turnTaken.accepted = .next t) := by
  have live : s.turnTaken.portServed = true → s.live := by
    unfold State.portServed State.live
    simp only [turnTaken_sys]
    cases s.sys <;> simp
  unfold step at h
  split at h
  · exact .inr (.inl (by simpa [timerAgent] using h.symm))
  · unfold foregroundAgent at h
    simp only [turnTaken_sys] at h
    split at h <;> simp_all
  · unfold hostAgent at h
    split at h
    · split at h
      · exact .inl (by simpa using h.symm)
      · unfold runWord at h
        split at h
        · exact .inr (.inr (.inr (.inr (.inr (.inr ⟨live ‹_›, _, h⟩)))))
        · exact .inr (.inr (.inr (.inr (.inr (.inl ⟨live ‹_›, _, _, by simpa using h.symm⟩)))))
    · exact .inl (by simpa using h.symm)

/-- The induction over one step, once: a relation that holds of an unchanged core, of every agent's own step and of
every command that can be accepted holds between a state and its successor. -/
theorem step_kept {R : State → State → Prop} (turn : ∀ s, R s s.turnTaken) (tick : ∀ s, R s (tickStep s.turnTaken))
    (boot : ∀ s, s.sys = .boot → R s (bootStep s.turnTaken))
    (sched : ∀ s, s.sys = .run → R s (schedulerStep s.turnTaken))
    (wait : ∀ s, s.sys = .sdWait → R s (releaseWait s.turnTaken))
    (fault : ∀ s c w, s.live → R s (s.turnTaken.accepted.raiseFault c w))
    (command : ∀ s i t, s.live → exec i s.turnTaken.accepted = .next t → R s t)
    {s t : State} (h : step s = .next t) : R s t := by
  obtain rfl | rfl | ⟨hs, rfl⟩ | ⟨hs, rfl⟩ | ⟨hs, rfl⟩ | ⟨hs, c, w, rfl⟩ | ⟨hs, i, hi⟩ := step_cases h
  · exact turn s
  · exact tick s
  · exact boot s hs
  · exact sched s hs
  · exact wait s hs
  · exact fault s c w hs
  · exact command s i t hs hi

/-- Every step answers a next state (R401: nothing stops the machine). -/
theorem step_answers (s : State) : ∃ t, step s = .next t := by
  unfold step
  split
  · exact ⟨_, rfl⟩
  · unfold foregroundAgent
    split <;> exact ⟨_, rfl⟩
  · unfold hostAgent
    split
    · split
      · exact ⟨_, rfl⟩
      · unfold runWord
        split
        · next i _ => cases i <;> exact ⟨_, rfl⟩
        · exact ⟨_, rfl⟩
    · exact ⟨_, rfl⟩

/-- The component command of a place of the iteration is its component step (R350). -/
theorem exec_componentCommand (p : Fin 6) (u : State) : exec (componentCommand p) u = .next (componentStep p u) := by
  fin_cases p <;> rfl

/-- ITER_POS moves only with a component step, by one place (R350, R82). -/
theorem step_iterPos {s t : State} (h : step s = .next t) :
    t.iterPos = s.iterPos ∨ (s.sys = .run ∧ ∃ u, (u = s.turnTaken ∨ u = s.turnTaken.accepted) ∧
      t = { componentStep s.iterPos u with iterPos := s.iterPos + 1 }) := by
  obtain rfl | rfl | ⟨hs, rfl⟩ | ⟨hs, rfl⟩ | ⟨hs, rfl⟩ | ⟨hs, c, w, rfl⟩ | ⟨hs, i, hi⟩ := step_cases h
  · simp
  · simp
  · simp
  · right
    exact ⟨hs, _, .inl rfl, by simp [schedulerStep, hs]⟩
  · simp
  · simp
  · cases exec_effect hi
    case scheduler =>
      by_cases hr : s.sys = .run
      · exact .inr ⟨hr, _, .inr rfl, by simp [schedulerStep, hr]⟩
      · simp [schedulerStep, hr]
    all_goals simp

end Sys2Proof.Laws
end

