-- ==== Sys2Proof/Laws/Runs.lean ====
section
/-! SUPPORT. Runs of ticks and samples of waiting levels: what the statements about several commands are put together
from. -/

namespace Sys2Proof.Laws

open Sys2Proof.Machine

/-- `s` after k ticks with TICK_EN = 1. -/
def ticked (s : State) : Nat → State
  | 0 => s
  | k + 1 => { ticked s k with cnt := (ticked s k).cnt.tick s.cfg.cntWidth }

/-- Ticks change the counters alone. -/
theorem ticked_eq (s : State) (k : Nat) : ticked s k = { s with cnt := (ticked s k).cnt } := by
  induction k with
  | zero => rfl
  | succ k ih => rw [ticked, ih]

theorem execList_ticks (s : State) (h : s.tickEn = true) (k : Nat) :
    execList (List.replicate k .tick) s = .next (ticked s k) := by
  induction k with
  | zero => rfl
  | succ k ih =>
    rw [List.replicate_succ', execList_append ih, execList_single]
    have he : (ticked s k).tickEn = true := by rw [ticked_eq]; exact h
    have hc : (ticked s k).cfg = s.cfg := by rw [ticked_eq]
    simp [exec, execTick, tickStep, ticked, he, hc]

/-- Ticks that do not wrap add to a counter (R170). -/
theorem get?_ticked (s : State) (k i v : Nat) (h : s.cnt.get? i = some v) (hk : v + k < 2 ^ s.cfg.cntWidth) :
    (ticked s k).cnt.get? i = some (v + k) := by
  induction k with
  | zero => exact h
  | succ k ih =>
    rw [ticked, get?_tick, ih (by omega)]
    simp [tickValue, Nat.add_assoc]
    exact Nat.mod_eq_of_lt (by omega)

/-- CNT_IR after ticks that do not wrap. -/
theorem ticked_ir (s : State) (k : Nat) (hk : s.cnt.ir + k < 2 ^ s.cfg.cntWidth) :
    (ticked s k).cnt.ir = s.cnt.ir + k :=
  Option.some.inj (get?_ticked s k 0 s.cnt.ir rfl hk)

/-- CNT_RFWIN after ticks that do not wrap. -/
theorem ticked_rfWin (s : State) (k : Nat) (hk : s.cnt.rfWin + k < 2 ^ s.cfg.cntWidth) :
    (ticked s k).cnt.rfWin = s.cnt.rfWin + k :=
  Option.some.inj (get?_ticked s k 5 s.cnt.rfWin rfl hk)

/-- The first waiting level, if it is of the sampled line, is the sample. -/
theorem level_of_cons {s : State} {l : Line} {v : Bool} {rest : List (Line × Bool)}
    (h : s.env.levels = (l, v) :: rest) : s.level l = v := by
  simp [State.level, h, waitingLevel]

/-- The sample uses it up. -/
theorem sampled_levels_of_cons {s : State} {l : Line} {v : Bool} {rest : List (Line × Bool)}
    (h : s.env.levels = (l, v) :: rest) : (s.sampled l).env.levels = rest := by
  simp [State.sampled, h, dropLevel]

/-- Two runs one after the other. -/
theorem execList_trans {a b : List Instr} {s t u : State} (h : execList a s = .next t) (h' : execList b t = .next u) :
    execList (a ++ b) s = .next u := by
  rw [execList_append h, h']

end Sys2Proof.Laws
end

