-- ==== Sys2Proof/Tests/Slice0.lean ====
section
/-! SUPPORT. Tests. Every expected value is a worked vector or a word of spec/95_test_vectors.md or an example of the
rule itself, under the test configuration of its section 0; then one witness a statement that has hypotheses. -/

namespace Sys2Proof.Tests

-- One test after another: side by side, each keeps a thread waiting for the kernel.
set_option Elab.async false

open Sys2Proof Sys2Proof.Machine

/-! ### The test configuration (spec/95 section 0) -/

/-- SEG7 << 8p -/
def segRow (p : Nat) : Vector Nat 10 :=
  #v[0x3F, 0x06, 0x5B, 0x4F, 0x66, 0x6D, 0x7D, 0x07, 0x7F, 0x6F].map (· <<< (8 * p))

/-- The OPEN parameters of spec/95 over the defaults of R7. -/
def testConfig : Config :=
  { Config.default with
    tickPeriod := 0
    segTable := ⟨segRow 0, segRow 1, segRow 2, segRow 3⟩
    dpMask := ⟨0x80, 0x8000, 0x800000, 0x80000000⟩
    slot0 := ⟨⟨false, false, false, false⟩, ⟨false, false, false, false⟩, 0⟩
    moreSlots := [⟨⟨false, true, true, true⟩, ⟨false, false, true, false⟩, 0⟩]
    xtalFreq := 26000000
    targetFreq := 868000000
    rfConfigSeq := []
    rfFreqHdr0 := [0x0D]
    rfFreqHdr1 := [0x0E]
    rfFreqHdr2 := [0x0F]
    rfCmdTxfifo := 0x3F
    rfCmdStx := 0x35
    rfCmdRxfifo := 0xBF
    rfCmdCal := 0x33
    rfDummy := 0 }

/-- After reset, with some content of the external shift register. -/
def start : State := State.resetWith testConfig 0 0x12345678 0x9ABCDEF0

/-- After BOOT, its bus trace left out. -/
def running : State := { start with tickEn := true, sys := .run, rf := { start.rf with configured := true } }

/-- After BOOT with RF_ENABLE = 0. -/
def noRadio : State := { start with cfg := { testConfig with rfEnable := false }, tickEn := true, sys := .run }

/-- After Shutdown. -/
def waiting : State := { start with sys := .sdWait }

def cntOf (s : State) (b : CounterBank) : State := { s with cnt := b }

def bank (a b c d e f : Nat) : CounterBank := ⟨a, b, c, d, e, f, []⟩

def levelsOf (s : State) (l : List (Line × Bool)) : State := { s with env := { s.env with levels := l } }

def turnOf (s : State) (a : Agent) : State := { s with env := { s.env with turns := [a] } }

def digOf (s : State) (a b c d : Byte) : State := { s with disp := { s.disp with dig := ⟨a, b, c, d⟩ } }

/-- What a test looks at in the next state. -/
def seen {α : Type} (o : Host.Outcome State Fault Refusal) (f : State → α) : Option α :=
  match o with
  | .next t => some (f t)
  | .fault _ => none
  | .refused _ => none

/-! ### WellFormed refuses ill-formed terms -/

theorem test_wf_cntRd : Instr.wf 6 2 (.cntRd 6) = false := by decide
theorem test_wf_cntClr : Instr.wf 6 2 (.cntClr 6) = false := by decide
theorem test_wf_cntRdclr : Instr.wf 6 2 (.cntRdclr 255) = false := by decide
theorem test_wf_cntChkrst : Instr.wf 6 2 (.cntChkrst 6 0) = false := by decide
theorem test_wf_dispSettings : Instr.wf 6 2 (.dispSettings 2) = false := by decide
theorem test_wf_bounds : Instr.wf 6 2 (.cntRd 5) = true ∧ Instr.wf 6 2 (.dispSettings 1) = true := by decide
theorem test_wf_config : testConfig.wf = true := by decide +kernel
theorem test_wf_width : { testConfig with cntWidth := 33 }.wfWidth = false := by decide
theorem test_wf_thresholds : { testConfig with rfAckWindow := 65536 }.wfThresholds = false := by decide
theorem test_wf_windows : { testConfig with tTimeout := 108 }.wfWindows = false := by decide
theorem test_wf_frameBits : { testConfig with frameBits := 255 }.wfFrameBits = false := by decide
theorem test_wf_radio : { testConfig with retryMax := 0 }.wfRadio = false ∧
    { testConfig with failCeil := 255 }.wfRadio = false := by decide
theorem test_wf_slots : { testConfig with moreSlots := List.replicate 256 testConfig.slot0 }.wfSlots = false := by
  decide +kernel
theorem test_wf_channels : { testConfig with numChannels := 3 }.wfChannels = false := by decide
theorem test_wf_segments :
    { testConfig with segTable := ⟨segRow 0, segRow 1, segRow 2, segRow 4⟩ }.wfSegments = false := by decide +kernel
theorem test_wf_dpMasks : { testConfig with dpMask := ⟨0, 0, 0, 2 ^ 32⟩ }.wfDpMasks = false := by decide +kernel
theorem test_wf_masks : { testConfig with slot0 := { testConfig.slot0 with alwaysOn := 2 ^ 32 } }.wfMasks = false := by
  decide +kernel

/-! ### Decoding: the words of spec/95 section 2.1 -/

theorem test_decode_system :
    decodeTableWord 64 0x0000000000000000 = some .nop ∧ decodeTableWord 64 0x0100000000000000 = some .tick ∧
    decodeTableWord 64 0x5E00000000000000 = some .shutdown ∧ decodeTableWord 64 0x5F00000000000000 = some .boot := by
  decide

theorem test_decode_counters :
    decodeTableWord 64 0x1003000000000000 = some (.cntRd 3) ∧
    decodeTableWord 64 0x1100000000000000 = some (.cntClr 0) ∧
    decodeTableWord 64 0x1201000000000000 = some (.cntRdclr 1) ∧
    decodeTableWord 64 0x130200000000004C = some (.cntChkrst 2 76) ∧
    decodeTableWord 64 0x13030000000002FA = some (.cntChkrst 3 762) := by
  decide

theorem test_decode_display :
    decodeTableWord 64 0x20000A0A060A0000 = some (.dispInc ⟨10, 6, 10, 10⟩) ∧
    decodeTableWord 64 0x2100000000000000 = some .dispZero ∧
    decodeTableWord 64 0x2200020304050000 = some (.dispSet ⟨5, 4, 3, 2⟩) ∧
    decodeTableWord 64 0x2300000000000000 = some .dispDirty ∧
    decodeTableWord 64 0x2401000000000000 = some (.dispSettings 1) ∧
    decodeTableWord 64 0x2500000000000000 = some .dispValue ∧
    decodeTableWord 64 0x2600000000000000 = some .dispAdv ∧
    decodeTableWord 64 0x2700000000000000 = some .dispRecomp ∧
    decodeTableWord 64 0x2800000000000000 = some .dispOff := by
  decide

theorem test_decode_links :
    decodeTableWord 64 0x3000000000000000 = some .irStep ∧
    decodeTableWord 64 0x3105000000140000 = some (.irParams 5 20) ∧
    decodeTableWord 64 0x4000000000000000 = some .rfConfig ∧
    decodeTableWord 64 0x4102000000000000 = some (.rfSend true false) ∧
    decodeTableWord 64 0x4101000000000000 = some (.rfSend false true) ∧
    decodeTableWord 64 0x4200000000000000 = some .rfStep := by
  decide

theorem test_decode_scheduler :
    decodeTableWord 64 0x5000000000000000 = some .schedStep ∧ decodeTableWord 64 0x5100000000000000 = some .phDisp ∧
    decodeTableWord 64 0x5200000000000000 = some .ph1ms ∧ decodeTableWord 64 0x5300000000000000 = some .ph10ms ∧
    decodeTableWord 64 0x5400000000000000 = some .ph50ms := by
  decide

/-- Each command's word in spec/95 is the encoder's. -/
theorem test_encode :
    encode (.cntChkrst 4 3810) = 0x1304000000000EE2 ∧ encode (.dispSet ⟨0, 6, 0, 0⟩) = 0x2200000006000000 ∧
    encode (.irParams 5 20) = 0x3105000000140000 ∧ encode (.rfSend true true) = 0x4103000000000000 := by
  decide

/-- V-ENC3: an unassigned opcode wins over its reserved bits. V-ENC4, V-ENC8, V-ENC9, V-ENC10: reserved bits. -/
theorem test_decode_errors :
    (match decode 0x0201000000000001#64 with | .error e => some e | .ok _ => none) = some DecodeError.illegalOpc ∧
    (match decode 0x0001000000000000#64 with | .error e => some e | .ok _ => none) = some DecodeError.reservedBits ∧
    (match decode 0x4104000000000000#64 with | .error e => some e | .ok _ => none) = some DecodeError.reservedBits ∧
    (match decode 0x3105000100140000#64 with | .error e => some e | .ok _ => none) = some DecodeError.reservedBits ∧
    (match decode 0x1007000000000001#64 with | .error e => some e | .ok _ => none) = some DecodeError.reservedBits := by
  decide

/-! ### Counter bank (spec/95 section 2.2) -/

/-- The example of R170. -/
theorem test_tick : seen (exec .tick (cntOf running (bank 0 75 75 761 3809 0xFFFF))) State.cnt =
    some (bank 1 76 76 762 3810 0) := by decide +kernel

/-- V-CNT1 -/
theorem test_tick_disabled : seen (exec .tick start) State.cnt = some (bank 0 0 0 0 0 0) := by decide +kernel

/-- V-CNT4 -/
theorem test_cntRd : seen (exec (.cntRd 4) (cntOf running (bank 0 0 0 0 3810 0))) (fun t => (t.res, t.cnt)) =
    some (3810, bank 0 0 0 0 3810 0) := by decide +kernel

/-- V-ENC11 -/
theorem test_cntRd_fault : seen (exec (.cntRd 6) { noRadio with res := 7 }) (fun t => (t.flt, t.res)) =
    some (⟨0x04, 3, 0x1006000000000000⟩, 7) := by decide +kernel

/-- V-CNT5 -/
theorem test_cntClr : seen (exec (.cntClr 0) (cntOf running (bank 57 1 2 3 4 5))) State.cnt =
    some (bank 0 1 2 3 4 5) := by decide +kernel

/-- V-CNT6 -/
theorem test_cntRdclr : seen (exec (.cntRdclr 1) (cntOf running (bank 9 80 9 9 9 9))) (fun t => (t.res, t.cnt)) =
    some (80, bank 9 0 9 9 9 9) := by decide +kernel

/-- V-CNT7 -/
theorem test_cntChkrst_met : seen (exec (.cntChkrst 4 3810) (cntOf running (bank 1 1 1 1 3810 1)))
    (fun t => (t.res, t.cnt)) = some (1, bank 1 1 1 1 0 1) := by decide +kernel

/-- V-CNT8 -/
theorem test_cntChkrst_unmet : seen (exec (.cntChkrst 4 3810) (cntOf running (bank 1 1 1 1 3809 1)))
    (fun t => (t.res, t.cnt)) = some (0, bank 1 1 1 1 3809 1) := by decide +kernel

/-! ### Digit display (spec/95 sections 1 and 2.3) -/

/-- S1 -/
theorem test_dispInc : seen (exec (.dispInc ⟨10, 10, 10, 10⟩) (digOf running 9 9 9 9))
    (fun t => (t.disp.dig, t.res)) = some (⟨0, 0, 0, 0⟩, 1) := by decide +kernel

/-- V-DSP5: 255 + 1 is compared without a wrap. -/
theorem test_dispInc_no_wrap : seen (exec (.dispInc ⟨255, 10, 10, 10⟩) (digOf running 255 0 0 0))
    (fun t => (t.disp.dig, t.res)) = some (⟨0, 1, 0, 0⟩, 0) := by decide +kernel

/-- V-DSP11 -/
theorem test_dispZero : seen (exec .dispZero { running with disp := ⟨⟨3, 2, 1, 0⟩, false, 0, 5, 7, false, false, false, 0, 0⟩ })
    (fun t => (t.disp.dig, t.disp.dirty, t.disp.bitIdx, t.disp.frame)) = some (⟨0, 0, 0, 0⟩, true, 7, 5) := by
  decide +kernel

/-- V-DSP12 -/
theorem test_dispSet : seen (exec (.dispSet ⟨0, 6, 0, 0⟩) { running with disp := { running.disp with dirty := false } })
    (fun t => (t.disp.dig, t.disp.dirty)) = some (⟨0, 6, 0, 0⟩, false) := by decide +kernel

/-- V-DSP13 -/
theorem test_dispDirty : seen (exec .dispDirty { running with disp := { running.disp with dirty := false } })
    (fun t => t.disp.dirty) = some true := by decide +kernel

/-- V-DSP14 -/
theorem test_dispSettings : seen (exec (.dispSettings 1) { running with disp := { running.disp with dirty := false } })
    (fun t => (t.disp.setsel, t.disp.dirty)) = some (1, false) := by decide +kernel

/-- V-ENC12 -/
theorem test_dispSettings_fault : seen (exec (.dispSettings 2) running) (fun t => (t.flt, t.disp.setsel)) =
    some (⟨0x04, 3, 0x2402000000000000⟩, 0) := by decide +kernel

/-- V-DSP15 -/
theorem test_dispValue : seen (exec .dispValue (digOf running 5 4 3 2)) State.res = some 2345 := by decide +kernel

/-- V-DSP16 -/
theorem test_dispValue_max : seen (exec .dispValue (digOf running 255 255 255 255)) State.res = some 283305 := by
  decide +kernel

/-- V-DSP29 -/
theorem test_dispAdv : seen (exec .dispAdv { running with disp := { running.disp with frame := 1, bitIdx := 0 } })
    (fun t => (t.out.pins, t.disp.bitIdx)) =
    some ([(.dspSer, true), (.dspSrclk, true), (.dspSrclk, false)], 1) := by decide +kernel

/-- V-DSP30, and R210: the latch takes the shift stages. -/
theorem test_dispAdv_latch : seen (exec .dispAdv { running with disp := { running.disp with bitIdx := 32 } })
    (fun t => (t.out.pins, t.disp.bitIdx, t.disp.srLatch)) =
    some ([(.dspRclk, true), (.dspRclk, false)], 33, 0x12345678) := by decide +kernel

/-- V-DSP24 -/
theorem test_dispRecomp : seen (exec .dispRecomp { digOf running 8 8 8 8 with
      disp := { (digOf running 8 8 8 8).disp with setsel := 1 } })
    (fun t => (t.disp.frame, t.disp.dirty, t.disp.bitIdx)) = some (0x7FFF7F7F, false, 0) := by decide +kernel

/-- V-ENC18 -/
theorem test_dispRecomp_range : seen (exec .dispRecomp (digOf noRadio 3 12 11 0))
    (fun t => (t.flt, t.disp.frame, t.disp.dirty, t.disp.bitIdx)) = some (⟨0x08, 4, 0x0C01⟩, 0, true, 33) := by
  decide +kernel

/-- V-DSP34 -/
theorem test_dispOff : seen (exec .dispOff { running with disp := { running.disp with bitIdx := 12 } })
    (fun t => (t.out.pins.length, t.disp.bitIdx, t.disp.srLatch, t.disp.dirty)) = some (98, 33, 0, true) := by
  decide +kernel

/-- S4: 33 DISP.ADVs of the frame 0x00807D3F leave 0xFCBE0100 latched. -/
theorem test_scan : seen (execList (List.replicate 33 .dispAdv)
      { running with disp := { running.disp with frame := 0x00807D3F, bitIdx := 0 } })
    (fun t => (t.disp.srLatch, t.disp.srShift, t.out.pins.length)) = some (0xFCBE0100, 0xFCBE0100, 98) := by
  decide +kernel

/-! ### IR signal link (spec/95 section 2.4) -/

/-- V-IR6 -/
theorem test_irStep_assert : seen (exec .irStep { cntOf noRadio (bank 24 0 0 0 0 0) with
      ir := { noRadio.ir with state := .assert .a } })
    (fun t => (t.ir.state, t.ir.outA, t.out.pins)) = some (.pulse .a, true, [(.irOutA, true)]) := by decide +kernel

/-- V-IR9 -/
theorem test_irStep_lost : seen (exec .irStep { running with
      ir := { running.ir with state := .error, broken := 2, irDelay := 4, peerConnected := true }
      rf := { running.rf with seq := 1 } })
    (fun t => ((t.ir.broken, t.ir.lostLatch, t.ir.peerConnected, t.ir.cooldown),
      (t.out.events, t.rf.pkt), (t.rf.seq, t.rf.state))) =
    some ((3, true, false, 4), ([.peerLost], 0x41), (2, .txStart)) := by decide +kernel

/-- V-IR13 -/
theorem test_irParams : seen (exec (.irParams 5 20) running) (fun t => (t.ir.brokenThresh, t.ir.irDelay, t.ir.cooldown)) =
    some (5, 20, 0) := by decide +kernel

/-! ### Radio link (spec/95 section 2.5) -/

/-- V-RF2: the configuration bytes CFG. -/
theorem test_rfConfig : seen (exec .rfConfig start) (fun t => (t.out.bus.map Prod.fst, t.rf.configured)) =
    some ([0x0D, 0x21, 0x0E, 0x62, 0x0F, 0x76, 0x33], true) := by decide +kernel

/-- V-ENC16 -/
theorem test_rfConfig_fault : seen (exec .rfConfig running) (fun t => (t.flt, t.out.bus)) =
    some (⟨0x10, 5, 0x4000000000000000⟩, []) := by decide +kernel

/-- V-RF3 -/
theorem test_rfSend : seen (exec (.rfSend true false) { running with rf := { running.rf with seq := 3 } })
    (fun t => (t.rf.pkt, t.rf.seq, t.res, t.rf.retry, t.rf.state)) = some (0x83, 0, 1, 100, .txStart) := by decide +kernel

/-- V-RF4: dropped before BOOT. -/
theorem test_rfSend_dropped : seen (exec (.rfSend true false) { start with res := 7 }) (fun t => (t.res, t.rf)) =
    some (0, start.rf) := by decide +kernel

/-- V-RF6: the acknowledgment wins over the elapsed window. -/
theorem test_rfStep_ack : seen (exec .rfStep { cntOf running (bank 0 0 0 0 0 800) with
      rf := { running.rf with state := .waitAck, retry := 100, fails := 3 }
      env := ⟨[], [(.rfAck, true)], [0x00, 0x30], 0⟩ })
    (fun t => ((t.rf.state, t.rf.retry, t.rf.fails, t.rf.ackByte),
      (t.ir.brokenThresh, t.ir.irDelay), (t.out.bus, t.out.events))) =
    some ((.idle, 100, 0, 0x30), (3, 0), ([(0xBF, 0x00), (0x00, 0x30)], [.rfAck])) := by decide +kernel

/-- S8, ceiling: the eleventh failure shuts the machine down. -/
theorem test_rfStep_exhausted : seen (exec .rfStep { cntOf running (bank 0 0 0 0 0 762) with
      rf := { running.rf with state := .waitAck, retry := 1, fails := 10 }
      env := ⟨[], [(.rfAck, false)], [], 0⟩ })
    (fun t => ((t.rf.fails, t.out.events, t.sys, t.tickEn), (t.rf.state, t.out.pins.length, t.disp.srLatch))) =
    some ((11, [.rfFail, .shutdown], .sdWait, false), (.idle, 99, 0)) := by decide +kernel

/-! ### Scheduler, phases, shutdown and boot (spec/95 section 2.6) -/

/-- V-SCH1 -/
theorem test_schedStep : seen (exec .schedStep { levelsOf (cntOf running (bank 3 0 0 0 0 0))
      [(.irInA, true)] with iterPos := 1 }) (fun t => (t.ir.state, t.iterPos)) = some (.idle .a, 2) := by decide +kernel

/-- V-SCH14 -/
theorem test_schedStep_shutdown : seen (exec .schedStep { levelsOf (cntOf running (bank 0 0 0 762 3810 0))
      [(.button, true)] with iterPos := 4, btnHold := 199 }) (fun t => (t.sys, t.iterPos, t.cnt.ms50)) =
    some (.sdWait, 5, 3810) := by decide +kernel

/-- V-SCH3 -/
theorem test_phDisp : seen (exec .phDisp { cntOf running (bank 0 80 0 0 0 0) with
      disp := { running.disp with frame := 1, bitIdx := 0 } }) (fun t => (t.cnt.disp, t.disp.bitIdx, t.disp.ser)) =
    some (0, 1, true) := by decide +kernel

/-- V-SCH4 -/
theorem test_phDisp_unmet : seen (exec .phDisp (cntOf running (bank 0 75 0 0 0 0))) (fun t => t.cnt.disp) =
    some 75 := by decide +kernel

/-- S12 -/
theorem test_ph1ms : seen (exec .ph1ms (cntOf running (bank 0 0 76 0 0 0))) (fun t => (t.cnt.ms1, t.out.events)) =
    some (0, [.ms1]) := by decide +kernel

/-- S12 -/
theorem test_ph1ms_unmet : seen (exec .ph1ms (cntOf running (bank 0 0 75 0 0 0))) (fun t => (t.cnt.ms1, t.out.events)) =
    some (75, []) := by decide +kernel

/-- V-SCH6, its first phase. -/
theorem test_ph10ms_press : seen (exec .ph10ms (levelsOf (cntOf running (bank 0 0 0 762 0 0)) [(.button, true)]))
    (fun t => (t.btnHold, t.out.events, t.cnt.ms10)) = some (1, [.ms10, .button], 0) := by decide +kernel

/-- V-SCH8 -/
theorem test_ph10ms_hold : seen (exec .ph10ms { levelsOf (cntOf running (bank 0 0 0 762 0 0))
      [(.button, true)] with btnHold := 199 }) (fun t => (t.btnHold, t.out.events, t.sys, t.tickEn)) =
    some (200, [.ms10, .shutdown], .sdWait, false) := by decide +kernel

/-- V-SCH13: the recompute's fault ends the recompute only. -/
theorem test_ph50ms_fault : seen (exec .ph50ms { levelsOf (cntOf (digOf noRadio 0 10 0 0)
      (bank 0 0 0 0 3810 0)) [(.vCutoff, false)] with ir := { noRadio.ir with cooldown := 2 } })
    (fun t => (t.flt, t.ir.cooldown, t.disp.dirty, t.disp.bitIdx, t.cnt.ms50)) =
    some (⟨0x08, 4, 0x0A01⟩, 1, true, 33, 0) := by decide +kernel

/-- V-RF10, its second phase: the heartbeat is sent. -/
theorem test_ph50ms_heartbeat : seen (exec .ph50ms { levelsOf (cntOf running (bank 0 0 0 0 3810 0))
      [(.vCutoff, false)] with rf := { running.rf with idleLink := 199, seq := 2 } })
    (fun t => (t.rf.idleLink, t.rf.pkt, t.rf.seq, t.rf.state)) = some (0, 0x02, 3, .txStart) := by decide +kernel

/-- V-SCH15 -/
theorem test_shutdown : seen (exec .shutdown running)
    (fun t => ((t.sys, t.tickEn, t.out.events), (t.out.pins.length, t.out.pins.take 1))) =
    some ((.sdWait, false, [.shutdown]), (99, [(.irOutA, false)])) := by decide +kernel

/-- V-RF1 -/
theorem test_boot : seen (exec .boot start) (fun t => (t.out.bus.map Prod.fst, t.tickEn, t.sys, t.rf.configured)) =
    some ([0x0D, 0x21, 0x0E, 0x62, 0x0F, 0x76, 0x33], true, .run, true) := by decide +kernel

/-- V-ENC13 -/
theorem test_boot_fault : seen (exec .boot noRadio) State.flt = some ⟨0x10, 5, 0x5F00000000000000⟩ := by decide +kernel

/-- V-SCH18 -/
theorem test_nop : exec .nop running = .next running := rfl

/-! ### Steps -/

/-- V-ENC1, as a step of the HOST. -/
theorem test_step_illegal : seen (step (State.withFetchWord { noRadio with res := 7 } 64 0x0200000000000000))
    (fun t => (t.flt, t.res, t.port)) = some (⟨0x01, 1, 0x0200000000000000⟩, 7, []) := by decide +kernel

/-- V-SCH10: the release wait with the button released. -/
theorem test_step_halt : seen (step (turnOf (levelsOf waiting [(.button, false)]) .foreground))
    (fun t => (t.sys, t.out.events)) = some (.halted, [.halt]) := by decide +kernel

/-! ### Witnesses: a state and operands that meet the hypotheses of each statement, at the bounds of its clauses -/

/-- `s` with a word at the port and the HOST next. -/
def offered (s : State) (w : Word) : State := { turnOf s .host with port := [w] }

theorem test_witness_EncodeOfDecodeIsTheWord : decode 0x4103000000000000#64 = .ok (.rfSend true true) := rfl

theorem test_witness_StepRunsTheDecodedCommand :
    (offered start 0x0100000000000000).nextAgent = .host ∧ (offered start 0x0100000000000000).live ∧
    (offered start 0x0100000000000000).port = [0x0100000000000000] ∧ decode 0x0100000000000000#64 = .ok .tick :=
  ⟨rfl, .inl rfl, rfl, rfl⟩

theorem test_witness_WordThatIsNoCommandOnlyRecordsAFault :
    (offered running 0x0200000000000000).nextAgent = .host ∧ (offered running 0x0200000000000000).live ∧
    (offered running 0x0200000000000000).port = [0x0200000000000000] ∧
    decode 0x0200000000000000#64 = .error .illegalOpc ∧ decode 0x0001000000000000#64 = .error .reservedBits :=
  ⟨rfl, .inr rfl, rfl, rfl, rfl⟩

theorem test_witness_FaultIsRecorded :
    (1 ≤ 1 ∧ 1 ≤ 5 ∧ 1 ≤ 5 ∧ 5 ≤ 5) ∧ start.flt.first = 0 ∧ (⟨0x04, 3, 0⟩ : FaultRegs).first ≠ 0 := by decide

/-- A second fault after a first one: the hypotheses of FaultRegistersAreSticky. -/
theorem test_witness_FaultRegistersAreSticky :
    seen (step { offered noRadio 0x0200000000000000 with flt := ⟨0x04, 3, 0x1006000000000000⟩ }) State.flt =
      some ⟨0x05, 3, 0x1006000000000000⟩ := by decide +kernel

theorem test_witness_AgentSteps :
    (turnOf running .timer).nextAgent = .timer ∧
    ((turnOf start .foreground).nextAgent = .foreground ∧ (turnOf start .foreground).sys = .boot) ∧
    ((turnOf running .foreground).nextAgent = .foreground ∧ (turnOf running .foreground).sys = .run) ∧
    ((turnOf (levelsOf waiting [(.button, true)]) .foreground).turnTaken.level .button = true ∧
      (turnOf (levelsOf waiting [(.button, false)]) .foreground).turnTaken.level .button = false ∧
      (turnOf waiting .foreground).nextAgent = .foreground ∧ (turnOf waiting .foreground).sys = .sdWait) ∧
    ((turnOf { waiting with sys := .halted } .foreground).nextAgent = .foreground) ∧
    ((offered waiting 0).nextAgent = .host ∧ (offered waiting 0).shutDown) :=
  ⟨rfl, ⟨rfl, rfl⟩, ⟨rfl, rfl⟩, ⟨rfl, rfl, rfl, rfl⟩, rfl, rfl, .inl rfl⟩

theorem test_witness_TickAdvancesEveryCounter : running.tickEn = true ∧ start.tickEn = false := by decide

/-- The counter statements: index 5 is the last counter, index 6 the first without one. -/
theorem test_witness_CounterCommands :
    (5#8).toNat < running.cnt.size ∧ running.cnt.size ≤ (6#8).toNat := by decide

theorem test_witness_CounterHoldsTheTicksSinceItsReset : running.tickEn = true ∧ (0#8).toNat < running.cnt.size := by
  decide

/-- The three clauses of CountersAreTickedOrReset occur. -/
theorem test_witness_CountersAreTickedOrReset :
    seen (step (turnOf running .timer)) State.cnt = some (bank 1 1 1 1 1 1) ∧
    seen (step (cntOf (offered running 0x1100000000000000) (bank 9 9 9 9 9 9))) State.cnt = some (bank 0 9 9 9 9 9) ∧
    seen (step (offered running 0)) State.cnt = some (bank 0 0 0 0 0 0) := by decide +kernel

/-- PH.1MS changes CNT_1MS. -/
theorem test_witness_CounterChangesOnlyByItsConsumer :
    seen (exec .ph1ms (cntOf running (bank 0 0 76 0 0 0))) (fun t => t.cnt.get? 2) = some (some 0) ∧
    (bank 0 0 76 0 0 0).get? 2 = some 76 := by decide +kernel

theorem test_witness_DisplayCountsInItsBase :
    digitsBelow (digOf running 9 5 9 9).disp.dig ⟨10, 6, 10, 10⟩ ∧ digitsBelow start.disp.dig ⟨1, 1, 1, 1⟩ := by
  unfold digitsBelow
  decide

theorem test_witness_DisplayRegisterCommands :
    (1#8).toNat < running.cfg.numSettings ∧ running.cfg.numSettings ≤ (2#8).toNat := by decide

theorem test_witness_DisplayAdvance :
    (31#8).toNat < running.cfg.frameBits ∧ (32#8).toNat = running.cfg.frameBits ∧
    running.cfg.frameBits < (33#8).toNat := by decide

theorem test_witness_RecomputeBuildsTheFrame :
    let s := digOf running 9 0 5 1
    s.disp.dirty = true ∧ s.cfg.frameBits < s.disp.bitIdx.toNat ∧ slotOf s.cfg s.disp.setsel = some testConfig.slot0 ∧
    s.disp.dig.q0.toNat = (9 : Fin 10) ∧ s.disp.dig.q1.toNat = (0 : Fin 10) ∧ s.disp.dig.q2.toNat = (5 : Fin 10) ∧
    s.disp.dig.q3.toNat = (1 : Fin 10) := by decide

/-- Each clause of RecomputeGuardAndDigitRange, at the bound 9 and 10. -/
theorem test_witness_RecomputeGuardAndDigitRange :
    running.disp.dirty = true ∧ running.cfg.frameBits < running.disp.bitIdx.toNat ∧
    9 < (digOf running 10 9 9 9).disp.dig.q0.toNat ∧
    ((digOf running 9 10 9 9).disp.dig.q0.toNat ≤ 9 ∧ 9 < (digOf running 9 10 9 9).disp.dig.q1.toNat) ∧
    ((digOf running 9 9 10 9).disp.dig.q1.toNat ≤ 9 ∧ 9 < (digOf running 9 9 10 9).disp.dig.q2.toNat) ∧
    ((digOf running 9 9 9 10).disp.dig.q2.toNat ≤ 9 ∧ 9 < (digOf running 9 9 9 10).disp.dig.q3.toNat) ∧
    (32#8).toNat ≤ running.cfg.frameBits := by decide

/-- DisplayOff, ScanLatchesTheReversedFrame, ShutdownSequence and EveryExitClearsTheOutputs: FRAME_BITS is 32. -/
theorem test_witness_frameBits :
    1 ≤ running.cfg.frameBits ∧ running.cfg.frameBits ≤ 254 ∧
    ({ running with disp := { running.disp with bitIdx := 0 } } : State).disp.bitIdx = 0 := by decide

/-- A step in a scan, and a step that writes FRAME. -/
theorem test_witness_FrameIsNotTorn :
    seen (step { offered running 0x2700000000000000 with disp := { running.disp with bitIdx := 32 } })
      (fun t => t.disp.frame) = some 0 ∧
    seen (step (offered running 0x2700000000000000)) (fun t => t.disp.frame) = some 0x3F3F3F3F := by decide +kernel

/-- The link in a state, with a value of CNT_IR. -/
def linkAt (x : IrState) (c : Nat) : State := { cntOf running (bank c 0 0 0 0 0) with ir := { running.ir with state := x } }

/-- Both channels, with CNT_IR just below and at the timeout. -/
theorem test_witness_LinkIdleAndWaitHigh :
    (linkAt (.idle .a) 129).ir.state = .idle .a ∧ ¬ (linkAt (.idle .a) 129).cfg.tTimeout ≤ 129 ∧
    (linkAt (.waitHigh .b) 130).ir.state = .waitHigh .b ∧ (linkAt (.waitHigh .b) 130).cfg.tTimeout ≤ 130 := by decide

/-- V-IR6: CNT_IR just below and at the end of each window. -/
theorem test_witness_LinkWindows :
    (linkAt (.assert .a) 24).ir.state = .assert .a ∧ ¬ running.cfg.tAssert ≤ 23 ∧ running.cfg.tAssert ≤ 24 ∧
    (linkAt (.pulse .b) 44).ir.state = .pulse .b ∧ ¬ running.cfg.tAssert + running.cfg.tPulse ≤ 43 ∧
    running.cfg.tAssert + running.cfg.tPulse ≤ 44 ∧
    (linkAt (.guard .a) 108).ir.state = .guard .a ∧
    ¬ running.cfg.tAssert + running.cfg.tPulse + running.cfg.tGuard ≤ 107 ∧
    running.cfg.tAssert + running.cfg.tPulse + running.cfg.tGuard ≤ 108 := by decide

theorem test_witness_LinkWaitNext :
    (linkAt (.waitNext .a) 119).ir.state = .waitNext .a ∧ (linkAt (.waitNext .a) 119).cfg.numChannels = 2 ∧
    (linkAt (.waitNext .b) 130).ir.state = .waitNext .b := by decide

theorem test_witness_LinkConnectedAndParameters : (linkAt .connected 0).ir.state = .connected := rfl

/-- The four arms of LinkError's conclusion: BROKEN_THRESH is 3. -/
theorem test_witness_LinkError :
    ({ running.ir with state := .error, broken := 2 } : SignalLink).state = .error ∧
    running.ir.brokenThresh.toNat ≤ min ((2#8).toNat + 1) running.cfg.brokenCeil.toNat ∧
    ¬ running.ir.brokenThresh.toNat ≤ min ((1#8).toNat + 1) running.cfg.brokenCeil.toNat ∧
    running.cfg.rfEnable = true ∧ running.cfg.sendOnPeerLost = true ∧ running.rf.state = .idle := by decide

theorem test_witness_LinkFullCycle :
    let lineA : List (Line × Bool) := [(.irInA, false), (.irInA, true), (.irInA, false)]
    let lineB : List (Line × Bool) := [(.irInB, false), (.irInB, true), (.irInB, false)]
    let s := levelsOf (linkAt (.idle .a) 129) (lineA ++ lineB)
    let u := levelsOf { linkAt (.idle .a) 129 with cfg := { testConfig with numChannels := 1 } } lineA
    s.ir.state = .idle .a ∧ s.cnt.ir < s.cfg.tTimeout ∧ s.tickEn = true ∧ s.cfg.wfWindows = true ∧
    s.cfg.tTimeout < 2 ^ s.cfg.cntWidth ∧ s.cfg.numChannels = 2 ∧ s.env.levels = lineA ++ lineB ++ [] ∧
    u.ir.state = .idle .a ∧ u.cnt.ir < u.cfg.tTimeout ∧ u.tickEn = true ∧ u.cfg.wfWindows = true ∧
    u.cfg.tTimeout < 2 ^ u.cfg.cntWidth ∧ u.cfg.numChannels = 1 ∧ u.env.levels = lineA ++ [] := by decide

theorem test_witness_LinkTimeoutsAreCounted :
    let s := levelsOf running [(.irInA, true), (.irInA, true)]
    s.ir.state = .idle .a ∧ s.cnt.ir = 0 ∧ s.tickEn = true ∧ s.cfg.tTimeout < 2 ^ s.cfg.cntWidth ∧
    s.ir.broken.toNat ≤ s.cfg.brokenCeil.toNat ∧ s.env.levels = List.replicate 2 (.irInA, true) ++ [] := by decide

/-- An ERROR step and a CONNECTED step of the scheduler. -/
theorem test_witness_LinkStatusChangesOnlyInErrorAndConnected :
    seen (step { turnOf running .foreground with iterPos := 1, ir := { running.ir with state := .error } })
      (fun t => t.ir.broken) = some 1 ∧
    seen (step { turnOf running .foreground with
      iterPos := 1, ir := { running.ir with state := .connected, broken := 2 } })
      (fun t => (t.ir.broken, t.ir.peerConnected)) = some (0, true) := by decide +kernel

theorem test_witness_RadioConfiguration :
    (start.cfg.rfEnable = true ∧ start.rf.configured = false) ∧ noRadio.cfg.rfEnable = false ∧
    running.rf.configured = true := by decide

/-- The radio in a state of a send, RF_TO at 254, just below the timeout of 255, with one level waiting. -/
def sendAt (x : RfState) (window : Nat) (retry fails : Byte) (l : Line) (v : Bool) : State :=
  { levelsOf (cntOf running (bank 0 0 0 0 0 window)) [(l, v)] with
    rf := { running.rf with state := x, retry := retry, fails := fails, timeout := 254 } }

theorem test_witness_RadioSendsAndWaitsForTheCarrier :
    running.rf.state = .idle ∧ noRadio.cfg.rfEnable = false ∧
    (let s := sendAt .waitCarrierAssert 0 100 0 .rfCarrier true
     s.cfg.rfEnable = true ∧ s.rf.timeout.toNat < s.cfg.rfTimeout50ms.toNat ∧ s.rf.state = .waitCarrierAssert) := by
  decide

theorem test_witness_RadioAcknowledged :
    let s := sendAt .waitAck 800 100 3 .rfAck true
    s.cfg.rfEnable = true ∧ s.rf.state = .waitAck ∧ s.rf.timeout.toNat < s.cfg.rfTimeout50ms.toNat ∧
    s.level .rfAck = true ∧ s.cfg.ackOverrides = [] := by decide

/-- V-RF5: the window just before and at its end. -/
theorem test_witness_RadioRetransmits :
    (let s := sendAt .waitAck 761 2 0 .rfAck false
     s.cfg.rfEnable = true ∧ s.rf.state = .waitAck ∧ s.rf.timeout.toNat < s.cfg.rfTimeout50ms.toNat ∧
     s.level .rfAck = false ∧ s.cnt.rfWin < s.cfg.rfAckWindow) ∧
    (let s := sendAt .waitAck 762 2 0 .rfAck false
     s.level .rfAck = false ∧ s.cfg.rfAckWindow ≤ s.cnt.rfWin ∧ 2 ≤ s.rf.retry.toNat) := by decide

/-- Below the ceiling and at it; the last window, and the overall timeout at its bound. -/
theorem test_witness_RadioExhausted :
    (let s := sendAt .waitAck 762 1 10 .rfAck false
     s.cfg.rfEnable = true ∧ s.rf.fails.toNat ≤ s.cfg.failCeil.toNat ∧ s.cfg.failCeil.toNat ≤ 254 ∧
     s.rf.timeout.toNat < s.cfg.rfTimeout50ms.toNat ∧ s.rf.state = .waitAck ∧ s.level .rfAck = false ∧
     s.cfg.rfAckWindow ≤ s.cnt.rfWin ∧ s.rf.retry = 1 ∧ s.rf.fails.toNat = s.cfg.failCeil.toNat) ∧
    (let s := { running with rf := { running.rf with state := .txStart, timeout := 255, fails := 9 } }
     s.rf.fails.toNat ≤ s.cfg.failCeil.toNat ∧ s.cfg.rfTimeout50ms ≠ 0 ∧
     s.cfg.rfTimeout50ms.toNat ≤ s.rf.timeout.toNat ∧ s.rf.state ≠ .idle) := by decide

theorem test_witness_RadioSend : running.sendAccepted = true ∧ start.sendAccepted = false := by decide

/-- RETRY_MAX is 2 here. -/
theorem test_witness_RadioTransmissionCount :
    let s := levelsOf { running with cfg := { testConfig with rfTimeout50ms := 0, retryMax := 2 } }
      [(.rfCarrier, true), (.rfCarrier, false), (.rfAck, false), (.rfCarrier, true), (.rfCarrier, false), (.rfAck, false)]
    s.cfg.rfEnable = true ∧ s.rf.configured = true ∧ s.sys = .run ∧ s.rf.state = .idle ∧ s.tickEn = true ∧
    s.cfg.rfTimeout50ms = 0 ∧ s.cfg.rfAckWindow < 2 ^ s.cfg.cntWidth ∧ 1 ≤ s.cfg.retryMax.toNat ∧
    s.rf.fails.toNat < s.cfg.failCeil.toNat ∧
    s.env.levels = (List.replicate s.cfg.retryMax.toNat
      [(.rfCarrier, true), (.rfCarrier, false), (.rfAck, false)]).flatten ++ [] := by decide

/-- A failed send and an acknowledged one, as the scheduler's steps. -/
theorem test_witness_FailuresClearedOnlyByAnAcknowledgment :
    seen (step { turnOf running .foreground with
      rf := { running.rf with state := .txStart, retry := 1, timeout := 255, fails := 1 } }) (fun t => t.rf.fails) =
      some 2 ∧
    seen (step { turnOf running .foreground with
      rf := { running.rf with state := .waitAck, retry := 1, fails := 1 }
      env := ⟨[.foreground], [(.rfAck, true)], [0, 0], 0⟩ }) (fun t => t.rf.fails) = some 0 := by decide +kernel

theorem test_witness_SequenceAdvancesOnlyWithAnAcceptedRequest :
    seen (step (offered running 0x4100000000000000)) (fun t => (t.rf.seq, t.rf.state)) = some (1, .txStart) := by
  decide +kernel

theorem test_witness_SchedulerStep : running.sys = .run ∧ start.sys ≠ .run := by decide

/-- The thresholds of the phases, and the samples their clauses take. -/
theorem test_witness_Phases :
    75 < running.cfg.dispBitThresh ∧ running.cfg.dispBitThresh ≤ 76 ∧ 75 < running.cfg.t1ms ∧ running.cfg.t1ms ≤ 76 ∧
    761 < running.cfg.t10ms ∧ running.cfg.t10ms ≤ 762 ∧ 3809 < running.cfg.t50ms ∧ running.cfg.t50ms ≤ 3810 ∧
    (levelsOf running [(.button, true)]).level .button = true ∧
    (levelsOf running [(.button, false)]).level .button = false ∧
    (levelsOf running [(.vCutoff, true)]).level .vCutoff = true ∧
    (levelsOf running [(.vCutoff, false)]).level .vCutoff = false := by decide

theorem test_witness_ShutdownSequence : start.live ∧ running.live ∧ waiting.shutDown := ⟨.inl rfl, .inr rfl, .inl rfl⟩

theorem test_witness_BootAndNop :
    (start.sys = .boot ∧ start.cfg.rfEnable = true ∧ start.rf.configured = false) ∧
    ({ noRadio with sys := .boot } : State).cfg.rfEnable = false ∧ running.sys ≠ .boot := by decide

/-- FOREGROUND and TIMER in turn. -/
def inTurn (s : State) (n : Nat) : State := turnOf s (if n % 2 = 0 then .foreground else .timer)

/-- The run from `start` in which FOREGROUND and TIMER step in turn. -/
def fairRun : Nat → State
  | 0 => inTurn start 0
  | n + 1 =>
    match step (fairRun n) with
    | .next t => inTurn t (n + 1)
    | .fault _ => fairRun n
    | .refused _ => fairRun n

theorem fairRun_nextAgent (n : Nat) : (fairRun n).nextAgent = if n % 2 = 0 then .foreground else .timer := by
  cases n with
  | zero => rfl
  | succ n =>
    obtain ⟨t, h⟩ := Laws.step_answers (fairRun n)
    simp [fairRun, h, inTurn, turnOf, State.nextAgent]

theorem test_witness_FairRunsTakeEveryComponentStep : IsRun fairRun ∧ Fair fairRun := by
  refine ⟨fun n => ?_, fun n => ⟨2 * n + 1, by omega, .inl ?_⟩, fun n => ⟨2 * n, by omega, .inl ?_⟩⟩
  · obtain ⟨t, h⟩ := Laws.step_answers (fairRun n)
    exact ⟨t, _, _, h, by simp only [fairRun, h]; rfl⟩
  · rw [fairRun_nextAgent, if_neg (by omega)]
  · rw [fairRun_nextAgent, if_pos (by omega)]

theorem test_witness_OnlyTheReleaseWaitAfterShutdown :
    waiting.QuietOk ∧ waiting.shutDown ∧ ∃ t, step (turnOf waiting .timer) = .next t :=
  ⟨⟨rfl, rfl, by decide⟩, .inl rfl, _, rfl⟩

/-- The three changes of SYS_STATE. -/
theorem test_witness_EveryExitClearsTheOutputs :
    seen (step (turnOf start .foreground)) State.sys = some .run ∧
    seen (step (offered running 0x5E00000000000000)) State.sys = some .sdWait ∧
    seen (step (turnOf (levelsOf waiting [(.button, false)]) .foreground)) State.sys = some .halted := by
  decide +kernel

theorem test_witness_OnlySixCommandsWriteTheResult :
    seen (step { offered running 0x2500000000000000 with res := 7 }) State.res = some 0 := by decide +kernel

theorem test_witness_TracesOnlyGrowAndParametersStay : ∃ t, step (offered running 0) = .next t := ⟨_, rfl⟩

theorem test_witness_ResetMeetsTheInvariants : testConfig.wf = true ∧ 250 ≤ 250 := ⟨test_wf_config, le_refl _⟩

theorem test_witness_StepKeepsTheLink : start.LinkOk ∧ ∃ t, step (turnOf start .foreground) = .next t :=
  ⟨⟨fun _ => by decide, fun _ => rfl, by decide, by decide⟩, _, rfl⟩

theorem test_witness_StepKeepsTheRadio : running.RadioOk ∧ ∃ t, step (turnOf running .foreground) = .next t :=
  ⟨⟨by decide, by decide, by decide, by decide, by decide, by decide, by decide, fun h => absurd h (by decide)⟩, _, rfl⟩

theorem test_witness_StepKeepsTheRegistersInRange : start.Sized ∧ ∃ t, step (turnOf start .foreground) = .next t := by
  refine ⟨⟨test_wf_config, by decide, ?_, by decide, by decide, by decide, by decide, by decide, by decide⟩, _, rfl⟩
  intro i v h
  unfold CounterBank.get? at h
  split at h
  case h_7 => simp [start, State.resetWith] at h
  all_goals
    cases h
    decide

theorem test_witness_StepKeepsPinsTickAndFaults :
    running.QuietOk ∧ running.FaultsOk ∧ ∃ t, step (turnOf running .foreground) = .next t :=
  ⟨⟨rfl, rfl, by decide⟩, ⟨by decide, by decide, by decide, by decide⟩, _, rfl⟩

end Sys2Proof.Tests
end

section
/-! PROOFS. The induction over one step, reduced to the effects of the commands. -/

namespace Sys2Proof.Machine

-- One proof after another: side by side, each keeps a thread waiting for the kernel.
set_option Elab.async false

open Sys2Proof.Laws

/-- A step takes the turn, may take a word from the port, and then has one effect of a command or is the release wait,
so a transitive relation that holds of each of these holds of every step. -/
theorem step_of_effects {R : State → State → Prop} (trans : ∀ {s t u}, R s t → R t u → R s u)
    (turn : ∀ s, R s s.turnTaken) (accept : ∀ s, R s s.accepted)
    (wait : ∀ s, s.sys = .sdWait → R s (releaseWait s)) (effect : ∀ {s t}, Effect s t → R s t) {s t : State}
    (h : step s = .next t) : R s t := by
  refine step_kept turn (fun s => ?tick) (fun s _ => ?boot) (fun s _ => ?sched) (fun s hw => ?wait)
    (fun s c w _ => ?fault) (fun s i t _ hi => ?command) h
  case tick => exact trans (turn s) (effect .tick)
  case boot => exact trans (turn s) (effect .boot)
  case sched => exact trans (turn s) (effect .scheduler)
  case wait => exact trans (turn s) (wait _ hw)
  case fault => exact trans (trans (turn s) (accept _)) (effect (.fault c w))
  case command => exact trans (trans (turn s) (accept _)) (effect (exec_effect hi))

/-- `step_of_effects` for a predicate: what each part of a step keeps, the step keeps. -/
theorem step_keeps_of_effects {P : State → Prop} (turn : ∀ {s}, P s → P s.turnTaken)
    (accept : ∀ {s}, P s → P s.accepted) (wait : ∀ {s}, P s → s.sys = .sdWait → P (releaseWait s))
    (effect : ∀ {s t}, P s → Effect s t → P t) {s t : State} (hs : P s) (h : step s = .next t) : P t :=
  step_of_effects (R := fun s t => P s → P t) (fun hst htu => htu ∘ hst) (fun _ => turn) (fun _ => accept)
    (fun _ hw hs => wait hs hw) (fun he hs => effect hs he) h hs

end Sys2Proof.Machine
end

section
/-! PROOFS. The radio's invariants (R312): what each operation of the radio does to them. -/

namespace Sys2Proof.Machine

-- One proof after another: side by side, each keeps a thread waiting for the kernel.
set_option Elab.async false

open Sys2Proof.Laws

variable {s t : State}

/-! ### Moves within the invariant -/

/-- The invariants read the parameters, SYS_STATE and five registers of the radio. -/
theorem State.RadioOk.unchanged (h : s.RadioOk)
    (e : t.cfg = s.cfg ∧ t.sys = s.sys ∧ t.rf.state = s.rf.state ∧ t.rf.configured = s.rf.configured ∧
      t.rf.retry = s.rf.retry ∧ t.rf.pkt = s.rf.pkt ∧ t.rf.fails = s.rf.fails := by simp) : t.RadioOk := by
  obtain ⟨hcfg, hsys, hstate, hconf, hretry, hpkt, hfails⟩ := e
  obtain ⟨retryMax, failCeil, present, busy, retry, reserved, fails, exhausted⟩ := h
  constructor <;> simp only [State.shutDown, hcfg, hsys, hstate, hconf, hretry, hpkt, hfails] <;> assumption

/-- A send in progress goes on in another state, with retries left. -/
theorem State.RadioOk.move (h : s.RadioOk) (busy : s.rf.state ≠ .idle)
    (retry : 1 ≤ t.rf.retry.toNat ∧ t.rf.retry.toNat ≤ s.cfg.retryMax.toNat)
    (e : t.cfg = s.cfg ∧ t.sys = s.sys ∧ t.rf.configured = s.rf.configured ∧ t.rf.pkt = s.rf.pkt ∧
      t.rf.fails = s.rf.fails := by simp) : t.RadioOk := by
  obtain ⟨hcfg, hsys, hconf, hpkt, hfails⟩ := e
  have u : { t with rf := { t.rf with state := s.rf.state, retry := s.rf.retry } }.RadioOk :=
    h.unchanged ⟨hcfg, hsys, rfl, hconf, rfl, hpkt, hfails⟩
  obtain ⟨retryMax, failCeil, present, hbusy, -, reserved, fails, exhausted⟩ := u
  exact ⟨retryMax, failCeil, present, fun _ => hbusy busy, fun _ => hcfg ▸ retry, reserved, fails, exhausted⟩

/-- A send ends: in RF_IDLE only the failure count is bounded. -/
theorem State.RadioOk.toIdle (h : s.RadioOk) (idle : t.rf.state = .idle)
    (fails : t.rf.fails.toNat ≤ s.cfg.failCeil.toNat ∨ t.rf.fails.toNat = s.cfg.failCeil.toNat + 1 ∧ t.shutDown)
    (e : t.cfg = s.cfg ∧ t.rf.configured = s.rf.configured ∧ t.rf.pkt = s.rf.pkt := by simp) : t.RadioOk := by
  obtain ⟨hcfg, hconf, hpkt⟩ := e
  rw [← hcfg] at fails
  refine ⟨hcfg ▸ h.retryMax, hcfg ▸ h.failCeil, by rw [hcfg, hconf]; exact h.present, absurd idle, absurd idle,
    hpkt ▸ h.reserved, by omega, fun hf => ?_⟩
  exact (fails.resolve_left (by omega)).2

/-- A send is in progress only in RUN. -/
theorem State.RadioOk.idle_of_not_run (h : s.RadioOk) (notRun : s.sys ≠ .run) : s.rf.state = .idle := by
  by_contra busy
  exact notRun (h.busy busy).2.2

/-- Until shutdown the failure count has not passed its ceiling. -/
theorem State.RadioOk.fails_le_of_live (h : s.RadioOk) (live : s.live) :
    s.rf.fails.toNat ≤ s.cfg.failCeil.toNat := by
  have notDown : ¬ s.shutDown := by
    obtain hs | hs := live <;> simp [State.shutDown, hs]
  exact Nat.le_of_lt_succ (lt_of_le_of_ne h.fails (mt h.exhausted notDown))

/-! ### Shutdown -/

theorem shutdownBody_shutDown (s : State) : (shutdownBody s).shutDown := .inl rfl

/-- After `Shutdown()` the machine is in SD_WAIT or HALTED, whatever it was in (R365). -/
theorem shutdownSeq_shutDown (s : State) : (shutdownSeq s).shutDown := by
  obtain ⟨-, h⟩ | ⟨hs, h⟩ := shutdownSeq_cases s <;> rw [h]
  · exact shutdownBody_shutDown s
  · exact hs

theorem shutdownSeq_rf_state_of_idle (h : s.rf.state = .idle) : (shutdownSeq s).rf.state = .idle := by
  obtain ⟨-, hs⟩ | ⟨-, hs⟩ := shutdownSeq_cases s <;> rw [hs]
  · rfl
  · exact h

theorem shutdownBody_radioOk (h : s.RadioOk) : (shutdownBody s).RadioOk := by
  refine h.toIdle rfl ?_
  simpa [shutdownBody_shutDown] using Nat.le_or_eq_of_le_succ h.fails

theorem shutdownSeq_radioOk (h : s.RadioOk) : (shutdownSeq s).RadioOk := by
  obtain ⟨-, hs⟩ | ⟨-, hs⟩ := shutdownSeq_cases s <;> rw [hs]
  · exact shutdownBody_radioOk h
  · exact h

/-! ### The send state machine (R302 to R308) -/

/-- Bits 5:2 of a packet are zero (R62). -/
theorem packetByte_reserved (btn sig : Bool) (seq : BitVec 2) : (packetByte btn sig seq).extractLsb' 2 4 = 0 := by
  revert btn sig seq
  decide

theorem sendPacket_radioOk (h : s.RadioOk) (btn sig : Bool) : (sendPacket btn sig s).RadioOk := by
  unfold sendPacket
  split
  · next accepted =>
    obtain ⟨enabled, configured, run, -⟩ := (sendAccepted_eq_true s).mp accepted
    exact ⟨h.retryMax, h.failCeil, h.present, fun _ => ⟨configured, enabled, run⟩,
      fun _ => ⟨h.retryMax, le_refl _⟩, packetByte_reserved .., h.fails, h.exhausted⟩
  · exact h

/-- One more failure keeps FAILS within its ceiling and one, and past the ceiling the machine is shut down (R308). -/
theorem exhausted_radioOk (h : s.RadioOk) (busy : s.rf.state ≠ .idle)
    (e : t.cfg = s.cfg ∧ t.rf.configured = s.rf.configured ∧ t.rf.pkt = s.rf.pkt ∧ t.rf.fails = s.rf.fails := by
      simp) : (exhausted t).RadioOk := by
  obtain ⟨hcfg, hconf, hpkt, hfails⟩ := e
  have below := h.fails_le_of_live (.inr (h.busy busy).2.2)
  have ceil := h.failCeil
  have count : (s.rf.fails + 1).toNat = s.rf.fails.toNat + 1 := BitVec.toNat_add_of_lt (by simp; omega)
  unfold exhausted
  dsimp only
  split
  · next exceeded =>
    refine h.toIdle (shutdownSeq_rf_state_of_idle rfl) (.inr ⟨?_, shutdownSeq_shutDown _⟩) (by simp [*])
    simp [failuresExceeded_eq_true, hfails, hcfg] at exceeded ⊢
    omega
  · next within =>
    refine h.toIdle rfl (.inl ?_) (by simp [*])
    simpa [failuresExceeded_eq_true, hfails, hcfg] using within

theorem rfTxStart_radioOk (h : s.RadioOk) (busy : s.rf.state ≠ .idle) : (rfTxStart s).RadioOk :=
  h.move busy (by simpa [rfTxStart] using h.retry busy) (by simp [rfTxStart])

theorem rfWaitCarrierAssert_radioOk (h : s.RadioOk) (busy : s.rf.state ≠ .idle) :
    (rfWaitCarrierAssert s).RadioOk := by
  unfold rfWaitCarrierAssert
  split
  · exact h.move busy (h.retry busy)
  · exact h.unchanged

theorem rfWaitCarrierDeassert_radioOk (h : s.RadioOk) (busy : s.rf.state ≠ .idle) :
    (rfWaitCarrierDeassert s).RadioOk := by
  unfold rfWaitCarrierDeassert
  split
  · exact h.unchanged
  · exact h.move busy (h.retry busy)

/-- An acknowledgment clears the failure count (R306). -/
theorem readAck_radioOk (h : s.RadioOk) : (readAck s).RadioOk :=
  h.toIdle rfl (.inl (Nat.zero_le _)) ⟨rfl, rfl, rfl⟩

/-- An elapsed window goes on only with retries left (R306). -/
theorem windowElapsed_radioOk (h : s.RadioOk) (busy : s.rf.state ≠ .idle) : (windowElapsed s).RadioOk := by
  unfold windowElapsed
  dsimp only
  split
  · exact exhausted_radioOk h busy
  · next left =>
    have := h.retry busy
    refine h.move busy ?_
    simp only [setRfState_rf, busXfer_rf]
    bv_omega

theorem rfWaitAck_radioOk (h : s.RadioOk) (busy : s.rf.state ≠ .idle) : (rfWaitAck s).RadioOk := by
  have sampled : (s.sampled .rfAck).RadioOk := h.unchanged
  unfold rfWaitAck
  dsimp only
  split
  · exact readAck_radioOk sampled
  · split
    · exact windowElapsed_radioOk sampled busy
    · exact sampled

theorem radioStep_radioOk (h : s.RadioOk) : (radioStep s).RadioOk := by
  unfold radioStep
  split
  · exact h
  · next active =>
    have busy : s.rf.state ≠ .idle := fun idle => active (.inr idle)
    split
    · exact exhausted_radioOk h busy
    · split
      · exact h
      · exact rfTxStart_radioOk h busy
      · exact rfWaitCarrierAssert_radioOk h busy
      · exact rfWaitCarrierDeassert_radioOk h busy
      · exact rfWaitAck_radioOk h busy

/-! ### The other components -/

theorem peerLostCheck_radioOk (h : s.RadioOk) : (peerLostCheck s).RadioOk := by
  unfold peerLostCheck
  dsimp only
  split
  · split
    · exact sendPacket_radioOk h.unchanged ..
    · exact h.unchanged
  · exact h

theorem irError_radioOk (h : s.RadioOk) : (irError s).RadioOk := by
  unfold irError
  dsimp only
  have counted : { s with ir := { s.ir with broken := satInc s.ir.broken s.cfg.brokenCeil } }.RadioOk := h.unchanged
  exact (peerLostCheck_radioOk counted).unchanged

/-- Of the IR link's arms only ERROR reaches the radio, by its send request (R260). -/
theorem signalStep_radioOk (h : s.RadioOk) : (signalStep s).RadioOk := by
  unfold signalStep
  dsimp only
  split
  case h_8 => exact irError_radioOk h
  all_goals exact h.unchanged

theorem buttonHeld_radioOk (h : s.RadioOk) : (buttonHeld s).RadioOk := by
  unfold buttonHeld
  dsimp only
  split <;> split
  case isTrue.isTrue | isFalse.isTrue => exact shutdownSeq_radioOk h.unchanged
  all_goals exact h.unchanged

theorem phase10ms_radioOk (h : s.RadioOk) : (phase10ms s).RadioOk := by
  unfold phase10ms
  dsimp only
  split
  · split
    · exact buttonHeld_radioOk h.unchanged
    · exact h.unchanged
  · exact h

theorem heartbeatPhase_radioOk (h : s.RadioOk) : (heartbeatPhase s).RadioOk := by
  unfold heartbeatPhase
  dsimp only
  split
  · split
    · exact sendPacket_radioOk h.unchanged ..
    · exact h.unchanged
  · exact h

theorem rfTimeoutPhase_radioOk (h : s.RadioOk) : (rfTimeoutPhase s).RadioOk := by
  unfold rfTimeoutPhase
  split
  · exact h.unchanged
  · exact h

theorem phase50ms_radioOk (h : s.RadioOk) : (phase50ms s).RadioOk := by
  unfold phase50ms
  dsimp only
  split
  · split
    · exact shutdownSeq_radioOk h.unchanged
    · exact heartbeatPhase_radioOk (rfTimeoutPhase_radioOk h.unchanged)
  · exact h

theorem componentStep_radioOk (h : s.RadioOk) (p : Fin 6) : (componentStep p s).RadioOk := by
  unfold componentStep
  split
  · exact radioStep_radioOk h
  · exact signalStep_radioOk h
  · exact h.unchanged
  · exact h.unchanged
  · exact phase10ms_radioOk h
  · exact phase50ms_radioOk h

theorem schedulerStep_radioOk (h : s.RadioOk) : (schedulerStep s).RadioOk := by
  unfold schedulerStep
  split
  · exact (componentStep_radioOk h s.iterPos).unchanged
  · exact h

/-! ### Configuration, boot and the release wait -/

theorem configureRadio_radioOk (h : s.RadioOk) (enabled : s.cfg.rfEnable = true) :
    (configureRadio s).RadioOk := by
  unfold configureRadio
  obtain ⟨retryMax, failCeil, -, busy, retry, reserved, fails, exhausted⟩ := h
  constructor <;> simp_all [State.shutDown]

/-- BOOT's last writes: no send is in progress, and FAILS is within its ceiling (R370). -/
theorem bootToRun_radioOk (h : s.RadioOk) (boot : s.sys = .boot) :
    { s with tickEn := true, sys := .run }.RadioOk :=
  h.toIdle (h.idle_of_not_run (by simp [boot])) (.inl (h.fails_le_of_live (.inl boot)))

theorem bootStep_radioOk (h : s.RadioOk) : (bootStep s).RadioOk := by
  unfold bootStep
  dsimp only
  split
  · next boot =>
    split
    · next absent =>
      exact bootToRun_radioOk (configureRadio_radioOk h (by simp_all)) (by simpa using boot)
    · exact bootToRun_radioOk h boot
  · exact h.unchanged

/-- The release wait goes from SD_WAIT at most to HALTED (R360). -/
theorem releaseWait_radioOk (h : s.RadioOk) (wait : s.sys = .sdWait) : (releaseWait s).RadioOk := by
  unfold releaseWait
  split
  · exact h.unchanged
  · have halted : ({ s.sampled .button with sys := .halted }.emit .halt).shutDown := .inr rfl
    exact h.toIdle (h.idle_of_not_run (by simp [wait])) ((Nat.le_or_eq_of_le_succ h.fails).imp_right (⟨·, halted⟩))

/-! ### Commands and steps -/

theorem effect_radioOk (h : s.RadioOk) (e : Effect s t) : t.RadioOk := by
  cases e
  case configure enabled => exact configureRadio_radioOk h enabled
  case send b g v => exact (sendPacket_radioOk h b g).unchanged
  case radio => exact radioStep_radioOk h
  case signal => exact signalStep_radioOk h
  case scheduler => exact schedulerStep_radioOk h
  case ms10 => exact phase10ms_radioOk h
  case ms50 => exact phase50ms_radioOk h
  case shutdown => exact shutdownSeq_radioOk h
  case boot => exact bootStep_radioOk h
  all_goals exact h.unchanged

/-- Settles O45: every effect of a command keeps the radio's invariants, and so does the release wait. -/
theorem stepKeepsTheRadio : Obligations.StepKeepsTheRadio := fun _ _ h hstep =>
  step_keeps_of_effects State.RadioOk.unchanged State.RadioOk.unchanged releaseWait_radioOk effect_radioOk h hstep

end Sys2Proof.Machine
end

section
/-! PROOFS. The widths and ranges of the registers (R32, R38, R40, R41, R43, R51): what each operation does to them. -/

namespace Sys2Proof.Machine

-- One proof after another: side by side, each keeps a thread waiting for the kernel.
set_option Elab.async false

open Sys2Proof.Laws

/-! ### What a configuration that meets R8 gives -/

theorem frameBits_bounds_of_wf {c : Config} (h : c.wf = true) : 32 ≤ c.frameBits ∧ c.frameBits ≤ 254 := by
  simp only [Config.wf, Config.wfFrameBits, Bool.and_eq_true, decide_eq_true_eq] at h
  tauto

theorem radio_bounds_of_wf {c : Config} (h : c.wf = true) : 1 ≤ c.retryMax.toNat ∧ c.failCeil.toNat ≤ 254 := by
  simp only [Config.wf, Config.wfRadio, Bool.and_eq_true, decide_eq_true_eq] at h
  tauto

theorem segment_lt_of_wf {c : Config} (h : c.wf = true) {row : Vector Nat 10} (hr : row ∈ c.segTable.toList)
    (v : Fin 10) : row[v] < 2 ^ c.frameBits := by
  simp only [Config.wf, Config.wfSegments, Bool.and_eq_true, List.all_eq_true, decide_eq_true_eq] at h
  obtain ⟨⟨⟨-, segments⟩, -⟩, -⟩ := h
  exact segments row hr _ (by simp)

theorem dpMask_lt_of_wf {c : Config} (h : c.wf = true) {m : Nat} (hm : m ∈ c.dpMask.toList) :
    m < 2 ^ c.frameBits := by
  simp only [Config.wf, Config.wfDpMasks, Bool.and_eq_true, List.all_eq_true, decide_eq_true_eq] at h
  obtain ⟨⟨-, dpMasks⟩, -⟩ := h
  exact dpMasks m hm

theorem alwaysOn_lt_of_wf {c : Config} (h : c.wf = true) {st : Settings} (hs : st ∈ c.slot0 :: c.moreSlots) :
    st.alwaysOn < 2 ^ c.frameBits := by
  simp only [Config.wf, Config.wfMasks, Bool.and_eq_true, List.all_eq_true, decide_eq_true_eq] at h
  exact h.2 st hs

/-- FRAME_BITS + 1 fits the 8-bit BITIDX (R8, R41). -/
theorem scanComplete_toNat {c : Config} (h : c.wf = true) : (scanComplete c).toNat = c.frameBits + 1 := by
  have := frameBits_bounds_of_wf h
  rw [scanComplete, BitVec.toNat_ofNat, Nat.mod_eq_of_lt (by omega)]

/-- One position adds bits of its segment mask and its decimal point alone (R206). -/
theorem segmentBits_lt {c : Config} (h : c.wf = true) {row : Vector Nat 10} (hr : row ∈ c.segTable.toList) {m : Nat}
    (hm : m ∈ c.dpMask.toList) (suppress dp : Bool) (v : Fin 10) :
    segmentBits row m suppress dp v < 2 ^ c.frameBits := by
  have zero : 0 < 2 ^ c.frameBits := Nat.two_pow_pos _
  unfold segmentBits
  refine Nat.or_lt_two_pow ?segments ?point <;> split
  case segments.isTrue | point.isFalse => exact zero
  case segments.isFalse => exact segment_lt_of_wf h hr v
  case point.isTrue => exact dpMask_lt_of_wf h hm

/-- A frame of a slot that exists is FRAME_BITS bits wide (R40, R206). -/
theorem frameBitsOf_lt {c : Config} (h : c.wf = true) {st : Settings} (hs : st ∈ c.slot0 :: c.moreSlots)
    (v : Quad (Fin 10)) : frameBitsOf c st v < 2 ^ c.frameBits := by
  unfold frameBitsOf
  iterate 4 refine Nat.or_lt_two_pow ?_ (segmentBits_lt h (by simp [Quad.toList]) (by simp [Quad.toList]) ..)
  exact alwaysOn_lt_of_wf h hs

variable {s t : State}

/-! ### Moves within the ranges -/

/-- The ranges are about the parameters, the counters, five registers of the display and BROKEN. -/
theorem State.Sized.unchanged (h : s.Sized)
    (e : t.cfg = s.cfg ∧ t.cnt = s.cnt ∧ t.disp.setsel = s.disp.setsel ∧ t.disp.frame = s.disp.frame ∧
      t.disp.srShift = s.disp.srShift ∧ t.disp.srLatch = s.disp.srLatch ∧ t.disp.bitIdx = s.disp.bitIdx ∧
      t.ir.broken = s.ir.broken := by simp) : t.Sized := by
  obtain ⟨hcfg, hcnt, hsetsel, hframe, hshift, hlatch, hidx, hbroken⟩ := e
  obtain ⟨config, bank, counters, setsel, frame, shift, latch, bitIdx, broken⟩ := h
  constructor <;> simp only [hcfg, hcnt, hsetsel, hframe, hshift, hlatch, hidx, hbroken] <;> assumption

/-- SETSEL names a slot (R38). -/
theorem State.Sized.activeSlot_mem (h : s.Sized) : s.activeSlot ∈ s.cfg.slot0 :: s.cfg.moreSlots := by
  have lt : s.disp.setsel.toNat < (s.cfg.slot0 :: s.cfg.moreSlots).length := h.setsel
  unfold State.activeSlot slotOf
  rw [List.getElem?_eq_getElem lt]
  exact List.getElem_mem lt

/-! ### Counters (R32) -/

theorem clearCounter_sized (h : s.Sized) (i : Nat) : (s.clearCounter i).Sized where
  config := h.config
  bank := by simpa using h.bank
  counters := by
    intro j v hv
    rw [clearCounter_cnt] at hv
    by_cases hj : i = j
    · subst hj
      rw [get?_clear_self, Option.map_eq_some_iff] at hv
      obtain ⟨_, -, rfl⟩ := hv
      exact Nat.two_pow_pos _
    · rw [get?_clear_ne _ hj] at hv
      exact h.counters j v hv
  setsel := h.setsel
  frame := h.frame
  shift := h.shift
  latch := h.latch
  bitIdx := h.bitIdx
  broken := h.broken

theorem tickStep_sized (h : s.Sized) : (tickStep s).Sized := by
  unfold tickStep
  split
  · have bank : (s.cnt.tick s.cfg.cntWidth).size ≤ 256 := by simpa using h.bank
    refine ⟨h.config, bank, fun i v hv => ?_, h.setsel, h.frame, h.shift, h.latch, h.bitIdx, h.broken⟩
    simp only [get?_tick, Option.map_eq_some_iff] at hv
    obtain ⟨u, -, rfl⟩ := hv
    exact tickValue_lt ..
  · exact h

/-! ### The display -/

theorem setBitIdx_sized (h : s.Sized) {i : Byte} (hi : i.toNat ≤ s.cfg.frameBits + 1) : (s.setBitIdx i).Sized :=
  ⟨h.config, h.bank, h.counters, h.setsel, h.frame, h.shift, h.latch, hi, h.broken⟩

theorem shiftOut_sized (h : s.Sized) (b : Bool) : (s.shiftOut b).Sized := by
  rw [shiftOut_eq]
  exact ⟨h.config, h.bank, h.counters, h.setsel, h.frame, shiftIn_lt .., h.latch, h.bitIdx, h.broken⟩

/-- The latch takes the shift register's value (R210). -/
theorem latch_sized (h : s.Sized) : (s.pulse .dspRclk).Sized := by
  rw [latch_eq]
  exact ⟨h.config, h.bank, h.counters, h.setsel, h.frame, h.shift, h.shift, h.bitIdx, h.broken⟩

theorem shiftZeros_sized (h : s.Sized) (n : Nat) : (s.shiftZeros n).Sized := by
  induction n generalizing s with
  | zero => exact h
  | succ n ih => exact ih (shiftOut_sized h false)

/-- The scan index stops at FRAME_BITS + 1 (R207). -/
theorem advanceScan_sized (h : s.Sized) : (advanceScan s).Sized := by
  have bounds := frameBits_bounds_of_wf h.config
  unfold advanceScan
  split
  · next scanning =>
    refine setBitIdx_sized (shiftOut_sized h _) ?_
    rw [shiftOut_cfg, BitVec.toNat_add_of_lt (by simp; omega)]
    simp
    omega
  · split
    · exact setBitIdx_sized (latch_sized h) (scanComplete_toNat h.config).le
    · exact h

theorem turnOff_sized (h : s.Sized) : (turnOff s).Sized := by
  have blank := latch_sized (shiftZeros_sized h s.cfg.frameBits)
  exact setBitIdx_sized blank (by simp [scanComplete_toNat h.config])

theorem recomputeFrame_sized (h : s.Sized) : (recomputeFrame s).Sized := by
  unfold recomputeFrame
  split
  · split
    · exact h.unchanged
    · next f hf =>
      have width : f < 2 ^ s.cfg.frameBits := by
        unfold State.frameOf at hf
        split at hf <;> cases hf
        exact frameBitsOf_lt h.config h.activeSlot_mem _
      exact ⟨h.config, h.bank, h.counters, h.setsel, width, h.shift, h.latch, Nat.zero_le _, h.broken⟩
  · exact h

theorem displayPhase_sized (h : s.Sized) : (displayPhase s).Sized := by
  unfold displayPhase
  split
  · exact advanceScan_sized (clearCounter_sized h 1)
  · exact h

/-! ### Shutdown and the radio -/

theorem shutdownBody_sized (h : s.Sized) : (shutdownBody s).Sized := by
  have low : ({ s with tickEn := false }.pinWrite .irOutA false).Sized := h.unchanged
  exact (turnOff_sized low).unchanged (by simp [shutdownBody])

theorem shutdownSeq_sized (h : s.Sized) : (shutdownSeq s).Sized := by
  obtain ⟨-, hs⟩ | ⟨-, hs⟩ := shutdownSeq_cases s <;> rw [hs]
  · exact shutdownBody_sized h
  · exact h

theorem exhausted_sized (h : s.Sized) : (exhausted s).Sized := by
  unfold exhausted
  dsimp only
  split
  · exact shutdownSeq_sized h.unchanged
  · exact h.unchanged

theorem rfWaitCarrierDeassert_sized (h : s.Sized) : (rfWaitCarrierDeassert s).Sized := by
  unfold rfWaitCarrierDeassert
  split
  · exact h.unchanged
  · have sampled : (s.sampled .rfCarrier).Sized := h.unchanged
    exact (clearCounter_sized sampled 5).unchanged

theorem windowElapsed_sized (h : s.Sized) : (windowElapsed s).Sized := by
  unfold windowElapsed
  dsimp only
  split
  · exact exhausted_sized h.unchanged
  · exact h.unchanged

theorem readAck_sized (h : s.Sized) : (readAck s).Sized := h.unchanged (by simp [readAck, State.acknowledge])

theorem rfWaitAck_sized (h : s.Sized) : (rfWaitAck s).Sized := by
  unfold rfWaitAck
  dsimp only
  split
  · exact readAck_sized h.unchanged
  · split
    · exact windowElapsed_sized h.unchanged
    · exact h.unchanged

theorem radioStep_sized (h : s.Sized) : (radioStep s).Sized := by
  unfold radioStep
  split
  · exact h
  · split
    · exact exhausted_sized h
    · split
      · exact h
      · exact h.unchanged
      · exact h.unchanged
      · exact rfWaitCarrierDeassert_sized h
      · exact rfWaitAck_sized h

/-! ### The IR link (R51) -/

@[simp] theorem driveOut_broken (s : State) (k : Channel) (l : Bool) :
    (s.driveOut k l).ir.broken = s.ir.broken := by
  unfold State.driveOut
  split <;> simp

@[simp] theorem peerLostCheck_broken (s : State) : (peerLostCheck s).ir.broken = s.ir.broken := by
  unfold peerLostCheck
  dsimp only
  (repeat' split) <;> simp

theorem irIdle_sized (h : s.Sized) (k : Channel) (c : Nat) : (irIdle k c s).Sized := by
  unfold irIdle
  dsimp only
  (repeat' split) <;> exact h.unchanged

theorem irWaitHigh_sized (h : s.Sized) (k : Channel) (c : Nat) : (irWaitHigh k c s).Sized := by
  have sampled : (s.sampled (inputLine k)).Sized := h.unchanged
  unfold irWaitHigh
  dsimp only
  split
  · exact h.unchanged
  · split
    · exact (clearCounter_sized sampled 0).unchanged
    · exact sampled

theorem irAssert_sized (h : s.Sized) (k : Channel) (c : Nat) : (irAssert k c s).Sized := by
  unfold irAssert
  split <;> exact h.unchanged

theorem irPulse_sized (h : s.Sized) (k : Channel) (c : Nat) : (irPulse k c s).Sized := by
  unfold irPulse
  split <;> exact h.unchanged

theorem irGuard_sized (h : s.Sized) (k : Channel) (c : Nat) : (irGuard k c s).Sized := by
  unfold irGuard
  split <;> exact h.unchanged

theorem irWaitNext_sized (h : s.Sized) (k : Channel) (c : Nat) : (irWaitNext k c s).Sized := by
  have sampled : (s.sampled (inputLine k)).Sized := h.unchanged
  unfold irWaitNext
  dsimp only
  split
  · exact h.unchanged
  · split
    · exact sampled
    · split
      · exact (clearCounter_sized sampled 0).unchanged
      · exact h.unchanged

/-- A write of BROKEN within its ceiling (R51). -/
theorem setBroken_sized (h : s.Sized) {b : Byte} (hb : b.toNat ≤ s.cfg.brokenCeil.toNat) :
    { s with ir := { s.ir with broken := b } }.Sized :=
  ⟨h.config, h.bank, h.counters, h.setsel, h.frame, h.shift, h.latch, h.bitIdx, hb⟩

theorem irConnected_sized (h : s.Sized) : (irConnected s).Sized :=
  (clearCounter_sized (setBroken_sized h (b := 0) (Nat.zero_le _)) 0).unchanged (by simp [irConnected])

/-- BROKEN saturates at BROKEN_CEIL (R259, R263 (b)). -/
theorem irError_sized (h : s.Sized) : (irError s).Sized := by
  have saturated : (satInc s.ir.broken s.cfg.brokenCeil).toNat ≤ s.cfg.brokenCeil.toNat := by
    rw [satInc_toNat]
    exact Nat.min_le_right ..
  have counted := clearCounter_sized (setBroken_sized h saturated) 0
  exact counted.unchanged (by simp [irError])

theorem signalStep_sized (h : s.Sized) : (signalStep s).Sized := by
  unfold signalStep
  dsimp only
  split
  · exact irIdle_sized h ..
  · exact irWaitHigh_sized h ..
  · exact irAssert_sized h ..
  · exact irPulse_sized h ..
  · exact irGuard_sized h ..
  · exact irWaitNext_sized h ..
  · exact irConnected_sized h
  · exact irError_sized h

/-! ### The scheduler and the commands -/

theorem phase1ms_sized (h : s.Sized) : (phase1ms s).Sized := by
  unfold phase1ms
  split
  · exact (clearCounter_sized h 2).unchanged
  · exact h

theorem buttonHeld_sized (h : s.Sized) : (buttonHeld s).Sized := by
  unfold buttonHeld
  dsimp only
  split <;> split
  case isTrue.isTrue | isFalse.isTrue => exact shutdownSeq_sized h.unchanged
  all_goals exact h.unchanged

theorem phase10ms_sized (h : s.Sized) : (phase10ms s).Sized := by
  have cleared := clearCounter_sized h 3
  unfold phase10ms
  dsimp only
  split
  · split
    · exact buttonHeld_sized cleared.unchanged
    · exact cleared.unchanged
  · exact h

@[simp] theorem cooldownPhase_broken (s : State) : (cooldownPhase s).ir.broken = s.ir.broken := by
  unfold cooldownPhase
  split <;> rfl

theorem phase50ms_sized (h : s.Sized) : (phase50ms s).Sized := by
  have cleared := clearCounter_sized h 4
  unfold phase50ms
  dsimp only
  split
  · split
    · exact shutdownSeq_sized cleared.unchanged
    · have recomputed : (recomputeFrame ((s.clearCounter 4).sampled .vCutoff)).Sized :=
        recomputeFrame_sized cleared.unchanged
      exact recomputed.unchanged
  · exact h

theorem componentStep_sized (h : s.Sized) (p : Fin 6) : (componentStep p s).Sized := by
  unfold componentStep
  split
  · exact radioStep_sized h
  · exact signalStep_sized h
  · exact displayPhase_sized h
  · exact phase1ms_sized h
  · exact phase10ms_sized h
  · exact phase50ms_sized h

theorem schedulerStep_sized (h : s.Sized) : (schedulerStep s).Sized := by
  unfold schedulerStep
  split
  · exact (componentStep_sized h s.iterPos).unchanged
  · exact h

theorem effect_sized (h : s.Sized) (e : Effect s t) : t.Sized := by
  cases e
  case tick => exact tickStep_sized h
  case clear n => exact clearCounter_sized h n
  case resultClear v n => exact (clearCounter_sized h n).unchanged
  case clearResult v n => exact (clearCounter_sized h n).unchanged
  case slot k hk =>
    exact ⟨h.config, h.bank, h.counters, hk, h.frame, h.shift, h.latch, h.bitIdx, h.broken⟩
  case advance => exact advanceScan_sized h
  case recompute => exact recomputeFrame_sized h
  case off => exact turnOff_sized h
  case signal => exact signalStep_sized h
  case radio => exact radioStep_sized h
  case scheduler => exact schedulerStep_sized h
  case display => exact displayPhase_sized h
  case ms1 => exact phase1ms_sized h
  case ms10 => exact phase10ms_sized h
  case ms50 => exact phase50ms_sized h
  case shutdown => exact shutdownSeq_sized h
  all_goals exact h.unchanged

/-- Settles O59: every effect of a command keeps the registers in range, and the release wait writes none of them. -/
theorem stepKeepsTheRegistersInRange : Obligations.StepKeepsTheRegistersInRange := fun _ _ h hstep =>
  step_keeps_of_effects State.Sized.unchanged State.Sized.unchanged (fun hs _ => hs.unchanged) effect_sized h hstep

end Sys2Proof.Machine
end

section
/-! PROOFS. The traces only grow and the parameters stay (R12, R450): what each operation appends. -/

namespace Sys2Proof.Machine

-- One proof after another: side by side, each keeps a thread waiting for the kernel.
set_option Elab.async false

open Sys2Proof.Laws

/-- `t` has the parameters of `s`, and each of its traces begins with that of `s`. -/
structure State.Extends (s t : State) : Prop where
  cfg    : t.cfg = s.cfg
  pins   : s.out.pins <+: t.out.pins
  bus    : s.out.bus <+: t.out.bus
  events : s.out.events <+: t.out.events

namespace State.Extends

variable {s t u : State}

theorem trans (h : s.Extends t) (h' : t.Extends u) : s.Extends u :=
  ⟨h'.cfg.trans h.cfg, h.pins.trans h'.pins, h.bus.trans h'.bus, h.events.trans h'.events⟩

/-- What was appended. -/
theorem appended (h : s.Extends t) : t.cfg = s.cfg ∧ ∃ pins bus events,
    t.out = { pins := s.out.pins ++ pins, bus := s.out.bus ++ bus, events := s.out.events ++ events } := by
  obtain ⟨cfg, ⟨pins, hp⟩, ⟨bus, hb⟩, ⟨events, he⟩⟩ := h
  exact ⟨cfg, pins, bus, events, by rw [hp, hb, he]⟩

/-- An operation that leaves the traces alone. -/
theorem silent (e : t.cfg = s.cfg ∧ t.out = s.out := by simp) : s.Extends t := by
  obtain ⟨hcfg, hout⟩ := e
  constructor <;> simp [hcfg, hout]

/-- What follows leaves the traces alone. -/
theorem unchanged (h : s.Extends t) (e : u.cfg = t.cfg ∧ u.out = t.out := by simp) : s.Extends u :=
  h.trans (silent e)

/-- What comes before leaves the traces alone. -/
theorem after (h : t.Extends u) (e : t.cfg = s.cfg ∧ t.out = s.out := by simp) : s.Extends u :=
  (silent e).trans h

theorem setBitIdx (h : s.Extends t) (i : Byte) : s.Extends (t.setBitIdx i) := h.unchanged

theorem setRfState (h : s.Extends t) (x : RfState) : s.Extends (t.setRfState x) := h.unchanged

end State.Extends

open State.Extends

variable (s : State)

/-! ### The primitives of R12 -/

theorem extends_emit (e : Event) : s.Extends (s.emit e) := by
  constructor <;> simp

theorem extends_pinWrite (p : Pin) (l : Bool) : s.Extends (s.pinWrite p l) := by
  constructor <;> simp

theorem extends_busXfer (b : Byte) : s.Extends (s.busXfer b) := by
  constructor <;> simp

theorem extends_busXfers (bs : List Byte) : s.Extends (s.busXfers bs) := by
  induction bs generalizing s with
  | nil => exact silent (by simp [State.busXfers])
  | cons b bs ih => exact (extends_busXfer s b).trans (ih _)

theorem extends_pulse (p : Pin) : s.Extends (s.pulse p) :=
  ((extends_pinWrite s p true).unchanged (u := (s.pinWrite p true).risingEdge p)).trans (extends_pinWrite ..)

/-! ### The display and the shutdown -/

theorem extends_shiftOut (b : Bool) : s.Extends (s.shiftOut b) :=
  (extends_pinWrite s .dspSer b).trans (extends_pulse ..)

theorem extends_shiftZeros (n : Nat) : s.Extends (s.shiftZeros n) := by
  induction n generalizing s with
  | zero => exact silent (by simp [State.shiftZeros])
  | succ n ih => exact (extends_shiftOut s false).trans (ih _)

theorem extends_advanceScan : s.Extends (advanceScan s) := by
  unfold advanceScan
  split
  · exact (extends_shiftOut s _).setBitIdx _
  · split
    · exact (extends_pulse s .dspRclk).setBitIdx _
    · exact silent

theorem extends_turnOff : s.Extends (turnOff s) :=
  ((extends_shiftZeros s s.cfg.frameBits).trans (extends_pulse _ .dspRclk)).setBitIdx _

theorem extends_shutdownBody : s.Extends (shutdownBody s) := by
  have low : s.Extends ({ s with tickEn := false }.pinWrite .irOutA false) :=
    (extends_pinWrite s .irOutA false).unchanged
  exact (low.trans (extends_turnOff _)).unchanged.trans (extends_emit _ .shutdown)

theorem extends_shutdownSeq : s.Extends (shutdownSeq s) := by
  obtain ⟨-, hs⟩ | ⟨-, hs⟩ := shutdownSeq_cases s <;> rw [hs]
  · exact extends_shutdownBody s
  · exact silent

theorem extends_releaseWait : s.Extends (releaseWait s) := by
  unfold releaseWait
  split
  · exact silent
  · exact (extends_emit s .halt).unchanged

/-! ### The radio -/

theorem extends_configureRadio : s.Extends (configureRadio s) :=
  (extends_busXfers s (configBytes s.cfg)).unchanged (by simp [configureRadio])

theorem extends_exhausted : s.Extends (exhausted s) := by
  have failed : s.Extends ((s.emit .rfFail).setRfState .idle) := (extends_emit s .rfFail).unchanged
  unfold exhausted
  dsimp only
  split
  · exact failed.trans (extends_shutdownSeq _).after
  · exact failed.unchanged

theorem extends_rfTxStart : s.Extends (rfTxStart s) :=
  (extends_busXfers s _).setRfState _

theorem extends_readAck : s.Extends (readAck s) :=
  have read := (extends_busXfer s s.cfg.rfCmdRxfifo).trans (extends_busXfer _ s.cfg.rfDummy)
  read.unchanged.trans (extends_emit _ .rfAck)

theorem extends_windowElapsed : s.Extends (windowElapsed s) := by
  unfold windowElapsed
  dsimp only
  split
  · exact (extends_exhausted _).after
  · exact (extends_busXfer _ _).after.setRfState _

theorem extends_rfWaitAck : s.Extends (rfWaitAck s) := by
  have sampled : s.Extends (s.sampled .rfAck) := silent
  unfold rfWaitAck
  dsimp only
  split
  · exact sampled.trans (extends_readAck _)
  · split
    · exact sampled.trans (extends_windowElapsed _)
    · exact sampled

theorem extends_radioStep : s.Extends (radioStep s) := by
  unfold radioStep
  split
  · exact silent
  · split
    · exact extends_exhausted s
    · split
      · exact silent
      · exact extends_rfTxStart s
      · exact silent
      · exact silent
      · exact extends_rfWaitAck s

/-! ### The IR link -/

theorem extends_driveOut (k : Channel) (l : Bool) : s.Extends (s.driveOut k l) := by
  unfold State.driveOut
  split
  · exact extends_pinWrite s .irOutA l
  · exact silent

theorem extends_irIdle (k : Channel) (c : Nat) : s.Extends (irIdle k c s) := by
  unfold irIdle
  dsimp only
  (repeat' split) <;> exact silent

theorem extends_irWaitHigh (k : Channel) (c : Nat) : s.Extends (irWaitHigh k c s) := by
  unfold irWaitHigh
  dsimp only
  (repeat' split) <;> exact silent

theorem extends_irAssert (k : Channel) (c : Nat) : s.Extends (irAssert k c s) := by
  unfold irAssert
  split
  · exact (extends_driveOut s k true).unchanged
  · exact silent

theorem extends_irPulse (k : Channel) (c : Nat) : s.Extends (irPulse k c s) := by
  unfold irPulse
  split
  · exact (extends_driveOut s k false).unchanged
  · exact silent

theorem extends_irGuard (k : Channel) (c : Nat) : s.Extends (irGuard k c s) := by
  unfold irGuard
  split <;> exact silent

theorem extends_irWaitNext (k : Channel) (c : Nat) : s.Extends (irWaitNext k c s) := by
  unfold irWaitNext
  dsimp only
  (repeat' split) <;> exact silent

theorem extends_irConnected : s.Extends (irConnected s) :=
  (extends_emit s .connected).unchanged (by simp [irConnected])

theorem extends_peerLostCheck : s.Extends (peerLostCheck s) := by
  have lost := extends_emit s .peerLost
  unfold peerLostCheck
  dsimp only
  split
  · split <;> exact lost.unchanged
  · exact silent

theorem extends_irError : s.Extends (irError s) := by
  have checked :=
    extends_peerLostCheck { s with ir := { s.ir with broken := satInc s.ir.broken s.cfg.brokenCeil } }
  exact checked.after.unchanged (by simp [irError])

theorem extends_signalStep : s.Extends (signalStep s) := by
  unfold signalStep
  dsimp only
  split
  · exact extends_irIdle s ..
  · exact extends_irWaitHigh s ..
  · exact extends_irAssert s ..
  · exact extends_irPulse s ..
  · exact extends_irGuard s ..
  · exact extends_irWaitNext s ..
  · exact extends_irConnected s
  · exact extends_irError s

/-! ### The scheduler -/

theorem extends_displayPhase : s.Extends (displayPhase s) := by
  unfold displayPhase
  split
  · exact (extends_advanceScan _).after
  · exact silent

theorem extends_phase1ms : s.Extends (phase1ms s) := by
  unfold phase1ms
  split
  · exact (extends_emit _ .ms1).after
  · exact silent

theorem extends_buttonHeld : s.Extends (buttonHeld s) := by
  have pressed := extends_emit s .button
  unfold buttonHeld
  dsimp only
  split <;> split
  · exact pressed.unchanged.trans (extends_shutdownSeq _)
  · exact pressed.unchanged
  · exact (extends_shutdownSeq _).after
  · exact silent

theorem extends_phase10ms : s.Extends (phase10ms s) := by
  have sampled : s.Extends (((s.clearCounter 3).emit .ms10).sampled .button) := (extends_emit s .ms10).unchanged
  unfold phase10ms
  dsimp only
  split
  · split
    · exact sampled.trans (extends_buttonHeld _)
    · exact sampled.unchanged
  · exact silent

theorem extends_phase50ms : s.Extends (phase50ms s) := by
  unfold phase50ms
  dsimp only
  split
  · split
    · exact (extends_shutdownSeq _).after
    · exact silent
  · exact silent

theorem extends_componentStep (p : Fin 6) : s.Extends (componentStep p s) := by
  unfold componentStep
  split
  · exact extends_radioStep s
  · exact extends_signalStep s
  · exact extends_displayPhase s
  · exact extends_phase1ms s
  · exact extends_phase10ms s
  · exact extends_phase50ms s

theorem extends_schedulerStep : s.Extends (schedulerStep s) := by
  unfold schedulerStep
  split
  · exact (extends_componentStep s s.iterPos).unchanged
  · exact silent

theorem extends_bootStep : s.Extends (bootStep s) := by
  unfold bootStep
  dsimp only
  split
  · split
    · exact (extends_configureRadio s).unchanged
    · exact silent
  · exact silent

/-! ### Commands and steps -/

theorem extends_effect {s t : State} (e : Effect s t) : s.Extends t := by
  cases e
  case advance => exact extends_advanceScan s
  case off => exact extends_turnOff s
  case signal => exact extends_signalStep s
  case configure => exact extends_configureRadio s
  case radio => exact extends_radioStep s
  case scheduler => exact extends_schedulerStep s
  case display => exact extends_displayPhase s
  case ms1 => exact extends_phase1ms s
  case ms10 => exact extends_phase10ms s
  case ms50 => exact extends_phase50ms s
  case shutdown => exact extends_shutdownSeq s
  case boot => exact extends_bootStep s
  all_goals exact silent

/-- Settles O56: every effect of a command extends the traces under the same parameters, and so does the release
wait. -/
theorem tracesOnlyGrowAndParametersStay : Obligations.TracesOnlyGrowAndParametersStay := fun _ _ hstep =>
  (step_of_effects (R := State.Extends) State.Extends.trans (fun _ => silent) (fun _ => silent)
    (fun s _ => extends_releaseWait s) extends_effect hstep).appended

end Sys2Proof.Machine
end

section
/-! PROOFS. The invariants after reset (R450). -/

namespace Sys2Proof.Machine

-- One proof after another: side by side, each keeps a thread waiting for the kernel.
set_option Elab.async false

/-! ### The default parameters meet R8 -/

theorem openSegRow_all_lt (p : Nat) :
    (Config.openSegRow p).toList.all (fun m => decide (m < 2 ^ Config.defaultFrameBits)) = true := by
  simp only [List.all_eq_true, Vector.mem_toList_iff, Config.openSegRow, Vector.mem_ofFn, decide_eq_true_eq]
  rintro m ⟨v, rfl⟩
  exact Nat.mod_lt _ (Nat.two_pow_pos _)

theorem default_wfSegments : Config.default.wfSegments = true := by
  have rows : Config.default.segTable.toList =
    [Config.openSegRow 0, Config.openSegRow 1, Config.openSegRow 2, Config.openSegRow 3] := rfl
  have width : Config.default.frameBits = Config.defaultFrameBits := rfl
  simp only [Config.wfSegments, rows, width, List.all_cons, List.all_nil, openSegRow_all_lt, Bool.and_self]

theorem default_wfDpMasks : Config.default.wfDpMasks = true := by
  simp [Config.wfDpMasks, Config.default, Quad.toList, Nat.mod_lt]

theorem default_wfMasks : Config.default.wfMasks = true := by
  simp [Config.wfMasks, Config.default, Config.openSlotOf, Nat.mod_lt]

theorem default_wfSlots : Config.default.wfSlots = true := by
  simp [Config.wfSlots, Config.numSettings, Config.default]
  omega

theorem default_wf : Config.default.wf = true := by
  have width : Config.default.wfWidth = true := rfl
  have thresholds : Config.default.wfThresholds = true := rfl
  have windows : Config.default.wfWindows = true := rfl
  have frameBits : Config.default.wfFrameBits = true := rfl
  have radio : Config.default.wfRadio = true := rfl
  have channels : Config.default.wfChannels = true := rfl
  simp [Config.wf, width, thresholds, windows, frameBits, radio, channels, default_wfSlots, default_wfSegments,
    default_wfDpMasks, default_wfMasks]

/-! ### The invariants, one by one -/

section

variable (c : Config) (spares shift latch : Nat)

theorem resetWith_counter_zero {i v : Nat} (h : (State.resetWith c spares shift latch).cnt.get? i = some v) :
    v = 0 := by
  unfold CounterBank.get? at h
  split at h
  case h_7 n =>
    exact List.eq_of_mem_replicate (List.mem_of_getElem? h)
  all_goals exact (Option.some.inj h).symm

theorem resetWith_sized (h : c.wf = true) (hs : spares ≤ 250) : (State.resetWith c spares shift latch).Sized where
  config := h
  bank := by
    simp [State.resetWith, CounterBank.size]
    omega
  counters := fun _ _ hv => resetWith_counter_zero c spares shift latch hv ▸ Nat.two_pow_pos _
  setsel := Nat.succ_pos _
  frame := Nat.two_pow_pos _
  shift := Nat.mod_lt _ (Nat.two_pow_pos _)
  latch := Nat.mod_lt _ (Nat.two_pow_pos _)
  bitIdx := (scanComplete_toNat h).le
  broken := Nat.zero_le _

theorem resetWith_linkOk : (State.resetWith c spares shift latch).LinkOk := by
  constructor <;> simp [State.resetWith]

theorem resetWith_radioOk (h : c.wf = true) : (State.resetWith c spares shift latch).RadioOk := by
  obtain ⟨retryMax, failCeil⟩ := radio_bounds_of_wf h
  refine ⟨retryMax, failCeil, ?_, ?_, ?_, ?_, ?_, ?_⟩ <;> simp [State.resetWith]

theorem resetWith_quietOk : (State.resetWith c spares shift latch).QuietOk := by
  constructor <;> simp [State.resetWith]

theorem resetWith_faultsOk : (State.resetWith c spares shift latch).FaultsOk := by
  constructor <;> simp [State.resetWith]

theorem resetWith_inv (h : c.wf = true) (hs : spares ≤ 250) : (State.resetWith c spares shift latch).Inv :=
  ⟨resetWith_sized c spares shift latch h hs, resetWith_linkOk .., resetWith_radioOk c spares shift latch h,
    resetWith_quietOk .., resetWith_faultsOk ..⟩

end

/-- Settles O58: the reset values meet each invariant, and the defaults of R7 meet R8 whatever the OPEN ones are. -/
theorem resetMeetsTheInvariants : Obligations.ResetMeetsTheInvariants :=
  ⟨resetWith_inv _ _ _ _ default_wf (Nat.zero_le _), fun c spares shift latch => resetWith_inv c spares shift latch⟩

end Sys2Proof.Machine
end

section
/-! PROOFS. One step as one effect of a command, and what it does to the fault registers (R90, R401, R403). -/

namespace Sys2Proof.Machine

-- One proof after another: side by side, each keeps a thread waiting for the kernel.
set_option Elab.async false

open Sys2Proof.Laws

/-! ### One step as one effect -/

/-- A relation that does not read the model's own turns, draws and port holds of every step, if it holds of every effect
of a command and of the release wait. -/
theorem step_as_effect {R : State → State → Prop}
    (core : ∀ {s t : State} (env : Env) (port : List Word), R { s with env := env, port := port } t → R s t)
    (wait : ∀ s, s.sys = .sdWait → R s (releaseWait s)) (effect : ∀ {s t}, Effect s t → R s t) {s t : State}
    (h : step s = .next t) : R s t := by
  have turn : ∀ {s t : State}, R s.turnTaken t → R s t := fun h => core _ _ h
  have word : ∀ {s t : State}, R s.turnTaken.accepted t → R s t := fun h => core _ _ h
  refine step_kept (fun s => ?same) (fun s => ?tick) (fun s _ => ?boot) (fun s _ => ?sched) (fun s hw => ?wait)
    (fun s c w _ => ?fault) (fun s i t _ hi => ?command) h
  case same => exact turn (effect .same)
  case tick => exact turn (effect .tick)
  case boot => exact turn (effect .boot)
  case sched => exact turn (effect .scheduler)
  case wait => exact turn (wait _ hw)
  case fault => exact word (effect (.fault c w))
  case command => exact word (effect (exec_effect hi))

/-! ### The fault record (R401) -/

/-- A fault sets the bit of its code and no other. -/
theorem record_set_getLsbD (f : FaultRegs) {c : Nat} (info : Word) (hc : 1 ≤ c) (hc' : c ≤ 8) (j : Nat) :
    (f.record c info).set.getLsbD j = (decide (j = c - 1) || f.set.getLsbD j) := by
  have bit : (1#8 <<< (c - 1)).getLsbD j = decide (j = c - 1) := by
    rw [← BitVec.twoPow_eq, BitVec.getLsbD_twoPow]
    simp only [show c - 1 < 8 by omega, decide_true, Bool.true_and, eq_comm]
  rw [FaultRegs.record, BitVec.getLsbD_or, bit, Bool.or_comm]

/-- The first fault is the code itself, which fits the register. -/
theorem record_first_toNat_of_clear (f : FaultRegs) {c : Nat} (info : Word) (hc : c ≤ 5) (h : f.first = 0) :
    (f.record c info).first.toNat = c := by
  rw [(record_first_of_clear f c info h).1, BitVec.toNat_ofNat, Nat.mod_eq_of_lt (by omega)]

/-- Settles O7: the set bit, the first fault of clear registers, and the first fault of registers that hold one. -/
theorem faultIsRecorded : Obligations.FaultIsRecorded := fun f c info h1 h5 =>
  ⟨record_set_getLsbD f info h1 (by omega),
    fun h => ⟨record_first_toNat_of_clear f info h5 h, (record_first_of_clear f c info h).2⟩,
    record_first_of_recorded f c info⟩

theorem Cause.code_bounds (c : Cause) : 1 ≤ c.code ∧ c.code ≤ 5 := by
  cases c <;> decide

/-! ### What an operation does to the fault registers -/

/-- The fault registers stay, or record one fault of R403. -/
def FaultRegs.Records (f g : FaultRegs) : Prop := g = f ∨ ∃ (c : Cause) (info : Word), g = f.record c.code info

variable (s : State)

theorem recomputeFrame_records : s.flt.Records (recomputeFrame s).flt := by
  unfold recomputeFrame
  split
  · split
    · next info _ => exact .inr ⟨.digitRange, info, rfl⟩
    · exact .inl rfl
  · exact .inl rfl

/-- Only the recompute of PH.50MS can fault (R356, R402). -/
theorem phase50ms_records : s.flt.Records (phase50ms s).flt := by
  unfold phase50ms
  dsimp only
  split
  · split
    · exact .inl (by simp)
    · simpa using recomputeFrame_records ((s.clearCounter 4).sampled .vCutoff)
  · exact .inl rfl

theorem componentStep_records (p : Fin 6) : s.flt.Records (componentStep p s).flt := by
  unfold componentStep
  split
  case h_6 => exact phase50ms_records s
  all_goals exact .inl (by simp)

theorem schedulerStep_records : s.flt.Records (schedulerStep s).flt := by
  unfold schedulerStep
  split
  · exact componentStep_records s s.iterPos
  · exact .inl rfl

theorem bootStep_records : s.flt.Records (bootStep s).flt := by
  unfold bootStep
  dsimp only
  split
  · split <;> exact .inl (by simp)
  · exact .inr ⟨.badState, encode .boot, rfl⟩

theorem effect_records {s t : State} (e : Effect s t) : s.flt.Records t.flt := by
  cases e
  case fault c w => exact .inr ⟨c, w, rfl⟩
  case recompute => exact recomputeFrame_records s
  case ms50 => exact phase50ms_records s
  case scheduler => exact schedulerStep_records s
  case boot => exact bootStep_records s
  all_goals exact .inl (by simp)

/-- A step records at most one fault. -/
theorem step_records {s t : State} (h : step s = .next t) : s.flt.Records t.flt :=
  step_as_effect (R := fun s t => s.flt.Records t.flt) (fun _ _ h => h) (fun _ _ => .inl (by simp)) effect_records h

/-- Settles O8: a step records at most one fault, and a record keeps the bits and the first fault there are. -/
theorem faultRegistersAreSticky : Obligations.FaultRegistersAreSticky := by
  intro s t h
  obtain hf | ⟨c, info, hf⟩ := step_records h <;> rw [hf]
  · exact ⟨fun _ hj => hj, fun _ => ⟨rfl, rfl⟩⟩
  · exact ⟨record_set_keeps s.flt c.code info, record_first_of_recorded s.flt c.code info⟩

/-! ### The fault registers agree with each other -/

/-- A recorded fault leaves the registers in agreement (R401, R403). -/
theorem record_faultsOk {s t : State} (h : s.FaultsOk) (c : Cause) (info : Word)
    (ht : t.flt = s.flt.record c.code info) : t.FaultsOk := by
  obtain ⟨h1, h5⟩ := c.code_bounds
  have ownBit : t.flt.set.getLsbD (c.code - 1) = true := by
    rw [ht, record_set_getLsbD _ _ h1 (by omega), decide_eq_true rfl, Bool.true_or]
  have anyBit : t.flt.set ≠ 0 := fun hz => by simp [hz] at ownBit
  have five : t.flt.set.toNat < 32 := by
    have shifted : (1#8 <<< (c.code - 1)).toNat < 2 ^ 5 := by cases c <;> decide
    rw [ht]
    exact Nat.or_lt_two_pow h.bits shifted
  by_cases hf : s.flt.first = 0
  · have first : t.flt.first.toNat = c.code := by rw [ht, record_first_toNat_of_clear _ _ h5 hf]
    have some : t.flt.first ≠ 0 := fun hz => by
      rw [hz] at first
      exact absurd first (by simp; omega)
    exact ⟨iff_of_false some anyBit, first ▸ h5, five, fun _ => first ▸ ownBit⟩
  · have first : t.flt.first = s.flt.first := by rw [ht, (record_first_of_recorded _ _ _ hf).1]
    refine ⟨iff_of_false (first ▸ hf) anyBit, first ▸ h.code, five, fun _ => ?_⟩
    rw [first, ht]
    exact record_set_keeps _ _ _ _ (h.bit hf)

theorem step_keeps_faultsOk {s t : State} (h : s.FaultsOk) (hstep : step s = .next t) : t.FaultsOk := by
  obtain hf | ⟨c, info, hf⟩ := step_records hstep
  · obtain ⟨clear, code, bits, bit⟩ := h
    constructor <;> rw [hf] <;> assumption
  · exact record_faultsOk h c info hf

end Sys2Proof.Machine
end

section
/-! PROOFS. What each command and each step does to the counters (R32 to R34, R175). -/

namespace Sys2Proof.Machine

-- One proof after another: side by side, each keeps a thread waiting for the kernel.
set_option Elab.async false

open Sys2Proof.Laws

variable (s : State)

/-! ### The consumers reset their own counter -/

/-- The deassert of the carrier starts the receive window (R305). -/
theorem rfWaitCarrierDeassert_cnt :
    (rfWaitCarrierDeassert s).cnt = s.cnt ∨ (rfWaitCarrierDeassert s).cnt = s.cnt.clear 5 := by
  unfold rfWaitCarrierDeassert
  split <;> simp

theorem radioStep_cnt : (radioStep s).cnt = s.cnt ∨ (radioStep s).cnt = s.cnt.clear 5 := by
  unfold radioStep
  split
  · exact .inl rfl
  · split
    · exact .inl (by simp)
    · split
      case h_4 => exact rfWaitCarrierDeassert_cnt s
      all_goals exact .inl (by simp)

@[simp] theorem irIdle_cnt (k : Channel) (c : Nat) : (irIdle k c s).cnt = s.cnt := by
  unfold irIdle
  dsimp only
  (repeat' split) <;> simp

theorem irWaitHigh_cnt (k : Channel) (c : Nat) :
    (irWaitHigh k c s).cnt = s.cnt ∨ (irWaitHigh k c s).cnt = s.cnt.clear 0 := by
  unfold irWaitHigh
  dsimp only
  (repeat' split) <;> simp

@[simp] theorem irAssert_cnt (k : Channel) (c : Nat) : (irAssert k c s).cnt = s.cnt := by
  unfold irAssert
  split <;> simp

@[simp] theorem irPulse_cnt (k : Channel) (c : Nat) : (irPulse k c s).cnt = s.cnt := by
  unfold irPulse
  split <;> simp

@[simp] theorem irGuard_cnt (k : Channel) (c : Nat) : (irGuard k c s).cnt = s.cnt := by
  unfold irGuard
  split <;> simp

theorem irWaitNext_cnt (k : Channel) (c : Nat) :
    (irWaitNext k c s).cnt = s.cnt ∨ (irWaitNext k c s).cnt = s.cnt.clear 0 := by
  unfold irWaitNext
  dsimp only
  (repeat' split) <;> simp

@[simp] theorem irConnected_cnt : (irConnected s).cnt = s.cnt.clear 0 := rfl

@[simp] theorem irError_cnt : (irError s).cnt = s.cnt.clear 0 := by
  simp [irError]

theorem signalStep_cnt : (signalStep s).cnt = s.cnt ∨ (signalStep s).cnt = s.cnt.clear 0 := by
  unfold signalStep
  dsimp only
  split
  case h_2 => exact irWaitHigh_cnt ..
  case h_6 => exact irWaitNext_cnt ..
  case h_7 | h_8 => exact .inr (by simp)
  all_goals exact .inl (by simp)

theorem displayPhase_cnt : (displayPhase s).cnt = s.cnt ∨ (displayPhase s).cnt = s.cnt.clear 1 := by
  unfold displayPhase
  split <;> simp

theorem phase1ms_cnt : (phase1ms s).cnt = s.cnt ∨ (phase1ms s).cnt = s.cnt.clear 2 := by
  unfold phase1ms
  split <;> simp

theorem phase10ms_cnt : (phase10ms s).cnt = s.cnt ∨ (phase10ms s).cnt = s.cnt.clear 3 := by
  unfold phase10ms
  dsimp only
  (repeat' split) <;> simp

theorem phase50ms_cnt : (phase50ms s).cnt = s.cnt ∨ (phase50ms s).cnt = s.cnt.clear 4 := by
  unfold phase50ms
  dsimp only
  (repeat' split) <;> simp

/-- The bound counter of each place of an iteration (R33, R350). -/
def placeCounter : Fin 6 → Nat
  | 0 => 5
  | 1 => 0
  | 2 => 1
  | 3 => 2
  | 4 => 3
  | 5 => 4

theorem consumerOf_placeCounter (p : Fin 6) : consumerOf (placeCounter p) = some (componentCommand p, p) := by
  fin_cases p <;> rfl

theorem componentStep_cnt (p : Fin 6) :
    (componentStep p s).cnt = s.cnt ∨ (componentStep p s).cnt = s.cnt.clear (placeCounter p) := by
  unfold componentStep
  split
  · exact radioStep_cnt s
  · exact signalStep_cnt s
  · exact displayPhase_cnt s
  · exact phase1ms_cnt s
  · exact phase10ms_cnt s
  · exact phase50ms_cnt s

/-! ### What a command does to the counters -/

/-- The commands that may reset counter `j`: a counter command on that index, its consumer, and the scheduler at the
consumer's place. -/
def MayReset (i : Instr) (s : State) (j : Nat) : Prop :=
  (∃ k : Byte, k.toNat = j ∧ (i = .cntClr k ∨ i = .cntRdclr k ∨ ∃ thr, i = .cntChkrst k thr)) ∨
  ∃ c p, consumerOf j = some (c, p) ∧ (i = c ∨ (i = .schedStep ∧ s.sys = .run ∧ s.iterPos = p))

/-- The counters of `t` are those of `s`, ticked by TICK or with one reset by a command that may. -/
def CountersMove (i : Instr) (s t : State) : Prop :=
  t.cnt = s.cnt ∨ (i = .tick ∧ s.tickEn = true ∧ t.cnt = s.cnt.tick s.cfg.cntWidth) ∨
  ∃ j, MayReset i s j ∧ t.cnt = s.cnt.clear j

theorem tickStep_countersMove : CountersMove .tick s (tickStep s) := by
  unfold tickStep
  split
  · next enabled => exact .inr (.inl ⟨rfl, enabled, rfl⟩)
  · exact .inl rfl

/-- A consumer may reset its own counter. -/
theorem componentStep_countersMove (p : Fin 6) : CountersMove (componentCommand p) s (componentStep p s) :=
  (componentStep_cnt s p).imp_right fun cleared =>
    .inr ⟨_, .inr ⟨_, _, consumerOf_placeCounter p, .inl rfl⟩, cleared⟩

theorem schedulerStep_countersMove : CountersMove .schedStep s (schedulerStep s) := by
  unfold schedulerStep
  split
  · next run =>
    exact (componentStep_cnt s s.iterPos).imp_right fun cleared =>
      .inr ⟨_, .inr ⟨_, _, consumerOf_placeCounter s.iterPos, .inr ⟨rfl, run, rfl⟩⟩, cleared⟩
  · exact .inl rfl

/-- What a counter command resets is the counter of its index (R172 to R174). -/
theorem countersMove_of_index {i : Instr} {s t : State} (k : Byte)
    (hi : i = .cntClr k ∨ i = .cntRdclr k ∨ ∃ thr, i = .cntChkrst k thr)
    (ht : t.cnt = s.cnt ∨ t.cnt = s.cnt.clear k.toNat) : CountersMove i s t :=
  ht.imp_right fun cleared => .inr ⟨_, .inl ⟨k, rfl, hi⟩, cleared⟩

theorem exec_countersMove {i : Instr} {s t : State} (h : exec i s = .next t) : CountersMove i s t := by
  cases i <;> obtain rfl := Host.Outcome.next.inj h
  case tick => exact tickStep_countersMove s
  case cntClr k =>
    refine countersMove_of_index k (.inl rfl) ?_
    split <;> simp
  case cntRdclr k =>
    refine countersMove_of_index k (.inr (.inl rfl)) ?_
    split <;> simp
  case cntChkrst k thr =>
    refine countersMove_of_index k (.inr (.inr ⟨thr, rfl⟩)) ?_
    split
    · simp
    · split <;> simp
  case rfStep => exact componentStep_countersMove s 0
  case irStep => exact componentStep_countersMove s 1
  case phDisp => exact componentStep_countersMove s 2
  case ph1ms => exact componentStep_countersMove s 3
  case ph10ms => exact componentStep_countersMove s 4
  case ph50ms => exact componentStep_countersMove s 5
  case schedStep => exact schedulerStep_countersMove s
  case cntRd k =>
    left
    split <;> simp
  case dispSettings k =>
    left
    split <;> simp
  case rfConfig =>
    left
    split <;> simp
  all_goals exact .inl (by simp)

/-- Settles O16: a command moves the counters by TICK or by a reset of one, which leaves every other counter. -/
theorem counterChangesOnlyByItsConsumer : Obligations.CounterChangesOnlyByItsConsumer := by
  intro i s t j h changed
  obtain same | ⟨rfl, -, -⟩ | ⟨k, may, cleared⟩ := exec_countersMove h
  · exact absurd (by rw [same]) changed
  · exact .inl rfl
  · by_cases hk : k = j
    · exact .inr (hk ▸ may)
    · exact absurd (by rw [cleared, get?_clear_ne _ hk]) changed

/-! ### What a step does to the counters -/

/-- A step leaves the counters, ticks them all, or resets one. -/
def CountersStep (s t : State) : Prop :=
  t.cnt = s.cnt ∨ (s.tickEn = true ∧ t.cnt = s.cnt.tick s.cfg.cntWidth) ∨ ∃ j, t.cnt = s.cnt.clear j

theorem CountersMove.step {i : Instr} {s t : State} (h : CountersMove i s t) : CountersStep s t :=
  h.imp_right (Or.imp And.right fun ⟨j, _, cleared⟩ => ⟨j, cleared⟩)

theorem step_countersStep {s t : State} (h : step s = .next t) : CountersStep s t :=
  step_kept (R := CountersStep) (fun _ => .inl rfl) (fun s => (tickStep_countersMove s.turnTaken).step)
    (fun _ _ => .inl (by simp)) (fun s _ => (schedulerStep_countersMove s.turnTaken).step) (fun _ _ => .inl (by simp))
    (fun _ _ _ _ => .inl rfl) (fun _ _ _ _ hi => (exec_countersMove hi).step) h

theorem get?_clear (b : CounterBank) (j i : Nat) :
    (b.clear j).get? i = if i = j then (b.get? i).map fun _ => 0 else b.get? i := by
  split
  · next h => rw [h, get?_clear_self]
  · next h => rw [get?_clear_ne _ (Ne.symm h)]

/-- Settles O15: each of the three moves of a step, index by index. -/
theorem countersAreTickedOrReset : Obligations.CountersAreTickedOrReset := by
  intro s t h
  obtain same | ⟨enabled, ticked⟩ | ⟨j, cleared⟩ := step_countersStep h
  · exact .inl same
  · exact .inr (.inl ⟨enabled, fun i => by rw [ticked, get?_tick]; rfl⟩)
  · exact .inr (.inr ⟨j, fun i => by rw [cleared, get?_clear]⟩)

end Sys2Proof.Machine
end

section
/-! PROOFS. SYS_STATE, TICK_EN and the display's pins (R35, R42, R80, R365, R370, R405): what each operation does to
them, and that every way into SD_WAIT is the shutdown sequence. -/

namespace Sys2Proof.Machine

-- One proof after another: side by side, each keeps a thread waiting for the kernel.
set_option Elab.async false

open Sys2Proof.Laws

/-! ### Two ways to go on: the mode stays, or the machine shuts down -/

/-- No clock pin of the display is left high (R42). -/
def State.ClocksStayLow (s t : State) : Prop :=
  (s.disp.srclk = false → t.disp.srclk = false) ∧ (s.disp.rclk = false → t.disp.rclk = false)

/-- `t` is `s` shut down (R365): display and outputs cleared, the tick disabled, the radio idle. -/
structure State.ShutsDown (s t : State) : Prop where
  live   : s.live
  sys    : t.sys = .sdWait
  tick   : t.tickEn = false
  outA   : t.ir.outA = false
  blank  : 1 ≤ s.cfg.frameBits → t.disp.srLatch = 0 ∧ t.disp.ser = false
  radio  : t.rf.state = .idle
  events : ∃ before, t.out.events = s.out.events ++ before ++ [.shutdown]

/-- What every operation but BOOT and the release wait does: the clock pins stay low, and SYS_STATE and TICK_EN stay as
they are unless the machine shuts down. -/
def State.Continues (s t : State) : Prop :=
  s.ClocksStayLow t ∧ ((t.sys = s.sys ∧ t.tickEn = s.tickEn) ∨ s.ShutsDown t)

variable {s t u : State}

theorem State.Continues.same
    (e : t.sys = s.sys ∧ t.tickEn = s.tickEn ∧ t.disp.srclk = s.disp.srclk ∧ t.disp.rclk = s.disp.rclk := by simp) :
    s.Continues t := by
  obtain ⟨hsys, htick, hsrclk, hrclk⟩ := e
  exact ⟨⟨fun h => hsrclk ▸ h, fun h => hrclk ▸ h⟩, .inl ⟨hsys, htick⟩⟩

/-- What comes before leaves the mode and the clock pins, and extends the events. -/
theorem State.Continues.after (h : t.Continues u) (x : s.Extends t)
    (e : t.sys = s.sys ∧ t.tickEn = s.tickEn ∧ t.disp.srclk = s.disp.srclk ∧ t.disp.rclk = s.disp.rclk := by simp) :
    s.Continues u := by
  obtain ⟨hsys, htick, hsrclk, hrclk⟩ := e
  obtain ⟨⟨srclk, rclk⟩, mode⟩ := h
  refine ⟨⟨fun h => srclk (hsrclk ▸ h), fun h => rclk (hrclk ▸ h)⟩, ?_⟩
  rw [hsys, htick] at mode
  refine mode.imp_right fun ⟨live, sys, tick, outA, blank, radio, before, events⟩ => ?_
  obtain ⟨first, hfirst⟩ := x.events
  refine ⟨by simpa [State.live, hsys] using live, sys, tick, outA, x.cfg ▸ blank, radio, first ++ before, ?_⟩
  rw [events, ← hfirst, List.append_assoc s.out.events]

/-- What follows writes no register that is spoken of. -/
theorem State.Continues.unchanged (h : s.Continues t)
    (e : u.sys = t.sys ∧ u.tickEn = t.tickEn ∧ u.disp = t.disp ∧ u.ir.outA = t.ir.outA ∧ u.rf.state = t.rf.state ∧
      u.out = t.out := by simp) : s.Continues u := by
  obtain ⟨hsys, htick, hdisp, houtA, hstate, hout⟩ := e
  obtain ⟨clocks, mode⟩ := h
  refine ⟨by rwa [State.ClocksStayLow, hdisp], ?_⟩
  rw [hsys, htick]
  refine mode.imp_right fun ⟨live, sys, tick, outA, blank, radio, events⟩ => ?_
  constructor <;> simpa only [hsys, htick, hdisp, houtA, hstate, hout]

/-! ### The display and the shutdown -/

theorem shiftZeros_srclk (h : s.disp.srclk = false) (n : Nat) : (s.shiftZeros n).disp.srclk = false := by
  cases n with
  | zero => exact h
  | succ n => simp [shiftZeros_succ_eq]

theorem turnOff_clocksStayLow (s : State) : s.ClocksStayLow (turnOff s) :=
  ⟨fun h => by simpa [turnOff] using shiftZeros_srclk h s.cfg.frameBits, fun _ => by simp [turnOff]⟩

theorem turnOff_continues (s : State) : s.Continues (turnOff s) := ⟨turnOff_clocksStayLow s, .inl (by simp)⟩

theorem advanceScan_continues (s : State) : s.Continues (advanceScan s) := by
  refine ⟨?_, .inl (by simp)⟩
  unfold advanceScan State.ClocksStayLow
  (repeat' split) <;> simp

theorem recomputeFrame_continues (s : State) : s.Continues (recomputeFrame s) := by
  refine ⟨?_, .inl (by simp)⟩
  unfold recomputeFrame State.ClocksStayLow
  (repeat' split) <;> simp

theorem shutdownBody_shutsDown (live : s.live) : s.ShutsDown (shutdownBody s) where
  live := live
  sys := rfl
  tick := by simp [shutdownBody]
  outA := by simp [shutdownBody]
  blank := fun h => by
    simp [shutdownBody, turnOff_eq ({ s with tickEn := false }.pinWrite .irOutA false) (by simpa using h)]
  radio := rfl
  events := ⟨[], by simp [shutdownBody]⟩

theorem shutdownSeq_continues (s : State) : s.Continues (shutdownSeq s) := by
  obtain ⟨live, hs⟩ | ⟨-, hs⟩ := shutdownSeq_cases s <;> rw [hs]
  · have clocks := turnOff_clocksStayLow ({ s with tickEn := false }.pinWrite .irOutA false)
    exact ⟨clocks, .inr (shutdownBody_shutsDown live)⟩
  · exact .same

/-! ### The radio -/

theorem exhausted_continues (s : State) : s.Continues (exhausted s) := by
  have failed : s.Extends ((s.emit .rfFail).setRfState .idle) := (extends_emit s .rfFail).unchanged
  unfold exhausted
  dsimp only
  split
  · exact (shutdownSeq_continues _).after failed.unchanged
  · exact .same

theorem windowElapsed_continues (s : State) : s.Continues (windowElapsed s) := by
  unfold windowElapsed
  dsimp only
  split
  · exact (exhausted_continues _).after .silent
  · exact .same

theorem rfWaitAck_continues (s : State) : s.Continues (rfWaitAck s) := by
  unfold rfWaitAck
  dsimp only
  split
  · exact .same
  · split
    · exact (windowElapsed_continues _).after .silent
    · exact .same

theorem radioStep_continues (s : State) : s.Continues (radioStep s) := by
  unfold radioStep
  split
  · exact .same
  · split
    · exact exhausted_continues s
    · split
      case h_5 => exact rfWaitAck_continues s
      all_goals exact .same

/-! ### The scheduler -/

theorem displayPhase_continues (s : State) : s.Continues (displayPhase s) := by
  unfold displayPhase
  split
  · exact (advanceScan_continues _).after .silent
  · exact .same

theorem buttonHeld_continues (s : State) : s.Continues (buttonHeld s) := by
  have pressed := extends_emit s .button
  unfold buttonHeld
  dsimp only
  split <;> split
  · exact (shutdownSeq_continues _).after pressed.unchanged
  · exact .same
  · exact (shutdownSeq_continues _).after .silent
  · exact .same

theorem phase10ms_continues (s : State) : s.Continues (phase10ms s) := by
  have sampled : s.Extends (((s.clearCounter 3).emit .ms10).sampled .button) := (extends_emit s .ms10).unchanged
  unfold phase10ms
  dsimp only
  split
  · split
    · exact (buttonHeld_continues _).after sampled
    · exact .same
  · exact .same

theorem phase50ms_continues (s : State) : s.Continues (phase50ms s) := by
  unfold phase50ms
  dsimp only
  split
  · split
    · exact (shutdownSeq_continues _).after .silent
    · obtain ⟨clocks, -⟩ := recomputeFrame_continues ((s.clearCounter 4).sampled .vCutoff)
      exact ⟨by simpa [State.ClocksStayLow] using clocks, .inl (by simp)⟩
  · exact .same

theorem componentStep_continues (s : State) (p : Fin 6) : s.Continues (componentStep p s) := by
  unfold componentStep
  split
  · exact radioStep_continues s
  · exact .same
  · exact displayPhase_continues s
  · exact .same
  · exact phase10ms_continues s
  · exact phase50ms_continues s

theorem schedulerStep_continues (s : State) : s.Continues (schedulerStep s) := by
  unfold schedulerStep
  split
  · exact (componentStep_continues s s.iterPos).unchanged
  · exact .same

/-! ### Commands and steps -/

/-- The moves of SYS_STATE (R80): it stays or the machine shuts down, BOOT enters RUN with the tick enabled, and the
release wait enters HALTED. -/
def State.ModeMove (s t : State) : Prop :=
  s.Continues t ∨
  (s.ClocksStayLow t ∧
    ((s.sys = .boot ∧ t.sys = .run ∧ t.tickEn = true) ∨ (s.sys = .sdWait ∧ t.sys = .halted ∧ t.tickEn = s.tickEn)))

theorem bootStep_modeMove (s : State) : s.ModeMove (bootStep s) := by
  unfold bootStep
  dsimp only
  split
  · next boot =>
    refine .inr ⟨?_, .inl ⟨boot, rfl, rfl⟩⟩
    split <;> simp [State.ClocksStayLow]
  · exact .inl .same

theorem releaseWait_modeMove (wait : s.sys = .sdWait) : s.ModeMove (releaseWait s) := by
  unfold releaseWait
  split
  · exact .inl .same
  · exact .inr ⟨⟨id, id⟩, .inr ⟨wait, rfl, rfl⟩⟩

theorem effect_modeMove (e : Effect s t) : s.ModeMove t := by
  cases e
  case advance => exact .inl (advanceScan_continues s)
  case recompute => exact .inl (recomputeFrame_continues s)
  case off => exact .inl (turnOff_continues s)
  case radio => exact .inl (radioStep_continues s)
  case scheduler => exact .inl (schedulerStep_continues s)
  case display => exact .inl (displayPhase_continues s)
  case ms10 => exact .inl (phase10ms_continues s)
  case ms50 => exact .inl (phase50ms_continues s)
  case shutdown => exact .inl (shutdownSeq_continues s)
  case boot => exact bootStep_modeMove s
  all_goals exact .inl .same

theorem step_modeMove (h : step s = .next t) : s.ModeMove t :=
  step_as_effect (R := State.ModeMove) (fun _ _ h => h.imp_left (·.after .silent)) (fun _ => releaseWait_modeMove)
    effect_modeMove h

/-- Settles O54: of the moves of SYS_STATE, the one into SD_WAIT is the shutdown sequence. -/
theorem everyExitClearsTheOutputs : Obligations.EveryExitClearsTheOutputs := by
  intro s t wide h moved
  obtain ⟨-, ⟨same, -⟩ | down⟩ | ⟨-, boots | ⟨wait, halted, -⟩⟩ := step_modeMove h
  · exact absurd same moved
  · obtain ⟨latch, ser⟩ := down.blank wide
    exact .inr (.inl ⟨down.live, down.sys, down.tick, down.outA, latch, ser, down.radio, down.events⟩)
  · exact .inl boots
  · exact .inr (.inr ⟨wait, halted⟩)

theorem State.ModeMove.clocksStayLow (h : s.ModeMove t) : s.ClocksStayLow t :=
  h.elim And.left And.left

/-- The tick is enabled exactly in RUN after every move of SYS_STATE (R35, R365, R370). -/
theorem State.ModeMove.tick_iff (h : s.ModeMove t) (tick : s.tickEn = true ↔ s.sys = .run) :
    t.tickEn = true ↔ t.sys = .run := by
  obtain ⟨-, ⟨sys, en⟩ | down⟩ | ⟨-, ⟨-, sys, en⟩ | ⟨wait, sys, en⟩⟩ := h
  · rwa [sys, en]
  · simp [down.sys, down.tick]
  · simp [sys, en]
  · rw [sys, en, tick, wait]
    decide

theorem step_keeps_quietOk (h : s.QuietOk) (hstep : step s = .next t) : t.QuietOk := by
  have move := step_modeMove hstep
  obtain ⟨srclk, rclk⟩ := move.clocksStayLow
  exact ⟨srclk h.srclk, rclk h.rclk, move.tick_iff h.tick⟩

/-- Settles O60: the moves of SYS_STATE keep the pins and the tick, a recorded fault the fault registers. -/
theorem stepKeepsPinsTickAndFaults : Obligations.StepKeepsPinsTickAndFaults := fun _ _ quiet faults hstep =>
  ⟨step_keeps_quietOk quiet hstep, step_keeps_faultsOk faults hstep⟩

end Sys2Proof.Machine
end

section
/-! PROOFS. Frames of the two links: the registers of `ir` and `rf` that an operation leaves although it writes others,
which the frames of the model's laws do not list. -/

namespace Sys2Proof.Machine

-- One proof after another: side by side, each keeps a thread waiting for the kernel.
set_option Elab.async false

open Sys2Proof.Laws

variable (s : State)

@[simp] theorem driveOut_status (k : Channel) (l : Bool) :
    (s.driveOut k l).ir.lostLatch = s.ir.lostLatch ∧ (s.driveOut k l).ir.peerConnected = s.ir.peerConnected := by
  unfold State.driveOut
  split <;> simp

@[simp] theorem readAck_frame_link :
    (readAck s).ir.broken = s.ir.broken ∧ (readAck s).ir.lostLatch = s.ir.lostLatch ∧
    (readAck s).ir.peerConnected = s.ir.peerConnected ∧ (readAck s).rf.seq = s.rf.seq ∧
    (readAck s).rf.pkt = s.rf.pkt := by
  simp [readAck, State.acknowledge]

@[simp] theorem windowElapsed_frame_link :
    (windowElapsed s).ir.broken = s.ir.broken ∧ (windowElapsed s).ir.lostLatch = s.ir.lostLatch ∧
    (windowElapsed s).ir.peerConnected = s.ir.peerConnected ∧ (windowElapsed s).rf.seq = s.rf.seq ∧
    (windowElapsed s).rf.pkt = s.rf.pkt := by
  unfold windowElapsed
  dsimp only
  split <;> simp

@[simp] theorem rfWaitAck_frame_link :
    (rfWaitAck s).ir.broken = s.ir.broken ∧ (rfWaitAck s).ir.lostLatch = s.ir.lostLatch ∧
    (rfWaitAck s).ir.peerConnected = s.ir.peerConnected ∧ (rfWaitAck s).rf.seq = s.rf.seq ∧
    (rfWaitAck s).rf.pkt = s.rf.pkt := by
  unfold rfWaitAck
  dsimp only
  (repeat' split) <;> simp

/-- The arms of the radio that only move RFSTATE. -/
@[simp] theorem rfTxStart_frame_rf :
    (rfTxStart s).rf.seq = s.rf.seq ∧ (rfTxStart s).rf.pkt = s.rf.pkt ∧ (rfTxStart s).rf.fails = s.rf.fails := by
  simp [rfTxStart]

@[simp] theorem rfWaitCarrierAssert_frame_rf :
    (rfWaitCarrierAssert s).rf.seq = s.rf.seq ∧ (rfWaitCarrierAssert s).rf.pkt = s.rf.pkt ∧
    (rfWaitCarrierAssert s).rf.fails = s.rf.fails := by
  unfold rfWaitCarrierAssert
  split <;> simp

@[simp] theorem rfWaitCarrierDeassert_frame_rf :
    (rfWaitCarrierDeassert s).rf.seq = s.rf.seq ∧ (rfWaitCarrierDeassert s).rf.pkt = s.rf.pkt ∧
    (rfWaitCarrierDeassert s).rf.fails = s.rf.fails := by
  unfold rfWaitCarrierDeassert
  split <;> simp

@[simp] theorem radioStep_frame_link :
    (radioStep s).ir.broken = s.ir.broken ∧ (radioStep s).ir.lostLatch = s.ir.lostLatch ∧
    (radioStep s).ir.peerConnected = s.ir.peerConnected ∧ (radioStep s).rf.seq = s.rf.seq ∧
    (radioStep s).rf.pkt = s.rf.pkt := by
  unfold radioStep
  (repeat' split) <;> simp

@[simp] theorem configureRadio_frame_rf :
    (configureRadio s).rf.seq = s.rf.seq ∧ (configureRadio s).rf.pkt = s.rf.pkt ∧
    (configureRadio s).rf.fails = s.rf.fails := by
  simp [configureRadio]

@[simp] theorem bootStep_frame_rf :
    (bootStep s).rf.seq = s.rf.seq ∧ (bootStep s).rf.pkt = s.rf.pkt ∧ (bootStep s).rf.fails = s.rf.fails := by
  unfold bootStep
  dsimp only
  (repeat' split) <;> simp

@[simp] theorem buttonHeld_frame_link :
    (buttonHeld s).ir.broken = s.ir.broken ∧ (buttonHeld s).ir.lostLatch = s.ir.lostLatch ∧
    (buttonHeld s).ir.peerConnected = s.ir.peerConnected ∧ (buttonHeld s).rf.seq = s.rf.seq ∧
    (buttonHeld s).rf.pkt = s.rf.pkt ∧ (buttonHeld s).rf.fails = s.rf.fails := by
  unfold buttonHeld
  dsimp only
  (repeat' split) <;> simp

@[simp] theorem phase10ms_frame_link :
    (phase10ms s).ir.broken = s.ir.broken ∧ (phase10ms s).ir.lostLatch = s.ir.lostLatch ∧
    (phase10ms s).ir.peerConnected = s.ir.peerConnected ∧ (phase10ms s).rf.seq = s.rf.seq ∧
    (phase10ms s).rf.pkt = s.rf.pkt ∧ (phase10ms s).rf.fails = s.rf.fails := by
  unfold phase10ms
  dsimp only
  (repeat' split) <;> simp

@[simp] theorem cooldownPhase_status :
    (cooldownPhase s).ir.lostLatch = s.ir.lostLatch ∧ (cooldownPhase s).ir.peerConnected = s.ir.peerConnected := by
  unfold cooldownPhase
  split <;> simp

@[simp] theorem phase50ms_status :
    (phase50ms s).ir.broken = s.ir.broken ∧ (phase50ms s).ir.lostLatch = s.ir.lostLatch ∧
    (phase50ms s).ir.peerConnected = s.ir.peerConnected := by
  unfold phase50ms
  dsimp only
  (repeat' split) <;> simp

@[simp] theorem sendPacket_fails (btn sig : Bool) : (sendPacket btn sig s).rf.fails = s.rf.fails := by
  unfold sendPacket
  split <;> simp

@[simp] theorem peerLostCheck_fails : (peerLostCheck s).rf.fails = s.rf.fails := by
  unfold peerLostCheck
  dsimp only
  (repeat' split) <;> simp

@[simp] theorem signalStep_fails : (signalStep s).rf.fails = s.rf.fails := by
  unfold signalStep
  dsimp only
  split <;> simp [irError]

@[simp] theorem rfTimeoutPhase_frame_rf :
    (rfTimeoutPhase s).rf.state = s.rf.state ∧ (rfTimeoutPhase s).rf.configured = s.rf.configured ∧
    (rfTimeoutPhase s).rf.seq = s.rf.seq ∧ (rfTimeoutPhase s).rf.pkt = s.rf.pkt ∧
    (rfTimeoutPhase s).rf.fails = s.rf.fails := by
  unfold rfTimeoutPhase
  split <;> simp

@[simp] theorem heartbeatPhase_fails : (heartbeatPhase s).rf.fails = s.rf.fails := by
  unfold heartbeatPhase
  dsimp only
  (repeat' split) <;> simp

@[simp] theorem phase50ms_fails : (phase50ms s).rf.fails = s.rf.fails := by
  unfold phase50ms
  dsimp only
  (repeat' split) <;> simp

end Sys2Proof.Machine
end

section
/-! PROOFS. BROKEN, LOST_LATCH and PEER_CONNECTED (R51, R55, R56): of all operations the ERROR and CONNECTED arms of
the IR link move them (R258 to R260). -/

namespace Sys2Proof.Machine

-- One proof after another: side by side, each keeps a thread waiting for the kernel.
set_option Elab.async false

open Sys2Proof.Laws

variable (s : State)

/-- The status of the link. -/
def SameStatus (s t : State) : Prop :=
  t.ir.broken = s.ir.broken ∧ t.ir.lostLatch = s.ir.lostLatch ∧ t.ir.peerConnected = s.ir.peerConnected

/-- The status stays, an ERROR step counts a break and may latch the loss, or a CONNECTED step clears it. -/
def StatusMove (s t : State) : Prop :=
  SameStatus s t ∨
  (s.ir.state = .error ∧ t.ir.state = .idle .a ∧
    t.ir.broken.toNat = min (s.ir.broken.toNat + 1) s.cfg.brokenCeil.toNat ∧
    ((t.ir.lostLatch = s.ir.lostLatch ∧ t.ir.peerConnected = s.ir.peerConnected ∧ t.out.events = s.out.events) ∨
     (s.ir.lostLatch = false ∧ t.ir.lostLatch = true ∧ t.ir.peerConnected = false ∧
       t.out.events = s.out.events ++ [.peerLost]))) ∨
  (s.ir.state = .connected ∧ t.ir.state = .idle .a ∧ t.ir.broken = 0 ∧ t.ir.lostLatch = false ∧
    t.ir.peerConnected = true ∧ t.out.events = s.out.events ++ [.connected])

/-- The loss is latched once, with its event (R260). -/
theorem peerLostCheck_latch :
    ((peerLostCheck s).ir.lostLatch = s.ir.lostLatch ∧ (peerLostCheck s).ir.peerConnected = s.ir.peerConnected ∧
      (peerLostCheck s).out.events = s.out.events) ∨
    (s.ir.lostLatch = false ∧ (peerLostCheck s).ir.lostLatch = true ∧ (peerLostCheck s).ir.peerConnected = false ∧
      (peerLostCheck s).out.events = s.out.events ++ [.peerLost]) := by
  unfold peerLostCheck
  dsimp only
  split
  · next due =>
    obtain ⟨-, unlatched, -⟩ := (peerLostDue_eq_true s).mp due
    refine .inr ⟨unlatched, ?_⟩
    split <;> simp
  · exact .inl ⟨rfl, rfl, rfl⟩

theorem irError_statusMove (error : s.ir.state = .error) : StatusMove s (irError s) := by
  have latch := peerLostCheck_latch { s with ir := { s.ir with broken := satInc s.ir.broken s.cfg.brokenCeil } }
  refine .inr (.inl ⟨error, rfl, ?_, ?_⟩)
  · simp [irError, satInc_toNat]
  · simpa [irError] using latch

theorem irConnected_statusMove (connected : s.ir.state = .connected) : StatusMove s (irConnected s) :=
  .inr (.inr ⟨connected, rfl, rfl, rfl, rfl, rfl⟩)

/-- The arms of the two channels leave the status of the link. -/
theorem irIdle_sameStatus (k : Channel) (c : Nat) : SameStatus s (irIdle k c s) := by
  unfold irIdle SameStatus
  dsimp only
  (repeat' split) <;> simp

theorem irWaitHigh_sameStatus (k : Channel) (c : Nat) : SameStatus s (irWaitHigh k c s) := by
  unfold irWaitHigh SameStatus
  dsimp only
  (repeat' split) <;> simp

theorem irAssert_sameStatus (k : Channel) (c : Nat) : SameStatus s (irAssert k c s) := by
  unfold irAssert SameStatus
  split <;> simp

theorem irPulse_sameStatus (k : Channel) (c : Nat) : SameStatus s (irPulse k c s) := by
  unfold irPulse SameStatus
  split <;> simp

theorem irGuard_sameStatus (k : Channel) (c : Nat) : SameStatus s (irGuard k c s) := by
  unfold irGuard SameStatus
  split <;> simp

theorem irWaitNext_sameStatus (k : Channel) (c : Nat) : SameStatus s (irWaitNext k c s) := by
  unfold irWaitNext SameStatus
  dsimp only
  (repeat' split) <;> simp

theorem signalStep_statusMove : StatusMove s (signalStep s) := by
  unfold signalStep
  dsimp only
  split
  · exact .inl (irIdle_sameStatus s ..)
  · exact .inl (irWaitHigh_sameStatus s ..)
  · exact .inl (irAssert_sameStatus s ..)
  · exact .inl (irPulse_sameStatus s ..)
  · exact .inl (irGuard_sameStatus s ..)
  · exact .inl (irWaitNext_sameStatus s ..)
  · next connected => exact irConnected_statusMove s connected
  · next error => exact irError_statusMove s error

theorem componentStep_statusMove (p : Fin 6) : StatusMove s (componentStep p s) := by
  unfold componentStep
  split
  case h_2 => exact signalStep_statusMove s
  all_goals exact .inl (by simp [SameStatus])

theorem schedulerStep_statusMove : StatusMove s (schedulerStep s) := by
  unfold schedulerStep
  split
  · exact componentStep_statusMove s s.iterPos
  · exact .inl ⟨rfl, rfl, rfl⟩

theorem effect_statusMove {s t : State} (e : Effect s t) : StatusMove s t := by
  cases e
  case signal => exact signalStep_statusMove s
  case scheduler => exact schedulerStep_statusMove s
  all_goals exact .inl (by simp [SameStatus])

/-- Settles O34: of the effects of a command only the IR link's step moves the status, alone or by the scheduler. -/
theorem linkStatusChangesOnlyInErrorAndConnected : Obligations.LinkStatusChangesOnlyInErrorAndConnected :=
  fun _ _ h => step_as_effect (R := StatusMove) (fun _ _ h => h) (fun _ _ => .inl (by simp [SameStatus]))
    effect_statusMove h

end Sys2Proof.Machine
end

section
/-! PROOFS. SEQ and PKT (R61, R312 (c)): only an accepted request moves them (R302). -/

namespace Sys2Proof.Machine

-- One proof after another: side by side, each keeps a thread waiting for the kernel.
set_option Elab.async false

open Sys2Proof.Laws

variable (s : State)

/-- The sequence number and the packet. -/
def SamePacket (s t : State) : Prop := t.rf.seq = s.rf.seq ∧ t.rf.pkt = s.rf.pkt

/-- A request is accepted between `s` and `t` (R302). -/
def AcceptsRequest (s t : State) : Prop :=
  t.rf.seq = s.rf.seq + 1 ∧ t.rf.pkt.extractLsb' 0 2 = s.rf.seq ∧ t.rf.retry = s.cfg.retryMax ∧
  s.rf.state = .idle ∧ t.rf.state = .txStart ∧ s.rf.configured = true ∧ s.sys = .run

/-- SEQ and PKT stay, or a request is accepted. -/
def PacketMove (s t : State) : Prop := SamePacket s t ∨ AcceptsRequest s t

/-- Bits 1:0 of a packet are its sequence number (R62). -/
theorem packetByte_seq (btn sig : Bool) (seq : BitVec 2) : (packetByte btn sig seq).extractLsb' 0 2 = seq := by
  revert btn sig seq
  decide

theorem sendPacket_packetMove (btn sig : Bool) : PacketMove s (sendPacket btn sig s) := by
  unfold sendPacket
  split
  · next accepted =>
    obtain ⟨-, configured, run, idle⟩ := (sendAccepted_eq_true s).mp accepted
    exact .inr ⟨rfl, packetByte_seq .., rfl, idle, rfl, configured, run⟩
  · exact .inl ⟨rfl, rfl⟩

theorem peerLostCheck_packetMove : PacketMove s (peerLostCheck s) := by
  unfold peerLostCheck
  dsimp only
  split
  · split
    · exact sendPacket_packetMove (State.emit { s with ir := _ } _) false true
    · exact .inl ⟨rfl, rfl⟩
  · exact .inl ⟨rfl, rfl⟩

/-- Of the IR link's arms only ERROR reaches the radio, by its send request (R260). -/
theorem signalStep_packetMove : PacketMove s (signalStep s) := by
  unfold signalStep
  dsimp only
  split
  case h_8 =>
    exact peerLostCheck_packetMove { s with ir := { s.ir with broken := satInc s.ir.broken s.cfg.brokenCeil } }
  all_goals exact .inl (by simp [SamePacket])

theorem heartbeatPhase_packetMove : PacketMove s (heartbeatPhase s) := by
  unfold heartbeatPhase
  dsimp only
  split
  · split
    · exact sendPacket_packetMove { s with rf := { s.rf with idleLink := _ } } false false
    · exact .inl ⟨rfl, rfl⟩
  · exact .inl ⟨rfl, rfl⟩

theorem phase50ms_packetMove : PacketMove s (phase50ms s) := by
  unfold phase50ms
  dsimp only
  split
  · split
    · exact .inl (by simp [SamePacket])
    · have beat := heartbeatPhase_packetMove
        (rfTimeoutPhase (cooldownPhase (recomputeFrame ((s.clearCounter 4).sampled .vCutoff))))
      simpa [PacketMove, SamePacket, AcceptsRequest] using beat
  · exact .inl ⟨rfl, rfl⟩

theorem componentStep_packetMove (p : Fin 6) : PacketMove s (componentStep p s) := by
  unfold componentStep
  split
  case h_2 => exact signalStep_packetMove s
  case h_6 => exact phase50ms_packetMove s
  all_goals exact .inl (by simp [SamePacket])

theorem schedulerStep_packetMove : PacketMove s (schedulerStep s) := by
  unfold schedulerStep
  split
  · exact componentStep_packetMove s s.iterPos
  · exact .inl ⟨rfl, rfl⟩

theorem effect_packetMove {s t : State} (e : Effect s t) : PacketMove s t := by
  cases e
  case send b g v => exact sendPacket_packetMove s b g
  case signal => exact signalStep_packetMove s
  case ms50 => exact phase50ms_packetMove s
  case scheduler => exact schedulerStep_packetMove s
  all_goals exact .inl (by simp [SamePacket])

/-- Settles O44: only a send request writes SEQ and PKT, and only when it is accepted. -/
theorem sequenceAdvancesOnlyWithAnAcceptedRequest : Obligations.SequenceAdvancesOnlyWithAnAcceptedRequest :=
  fun _ _ h => step_as_effect (R := PacketMove) (fun _ _ h => h) (fun _ _ => .inl (by simp [SamePacket]))
    effect_packetMove h

end Sys2Proof.Machine
end

section
/-! PROOFS. FAILS (R65, R312 (e)): a failed send counts it up (R308), an acknowledgment clears it (R306). -/

namespace Sys2Proof.Machine

-- One proof after another: side by side, each keeps a thread waiting for the kernel.
set_option Elab.async false

open Sys2Proof.Laws

variable (s : State)

/-- A send fails between `s` and `t` (R308). -/
def SendFails (s t : State) : Prop :=
  t.rf.fails = s.rf.fails + 1 ∧ .rfFail ∈ t.out.events.drop s.out.events.length ∧ t.rf.state = .idle

/-- A send is acknowledged between `s` and `t` (R306). -/
def SendAcknowledged (s t : State) : Prop :=
  t.rf.fails = 0 ∧ t.out.events = s.out.events ++ [.rfAck] ∧ s.rf.state = .waitAck ∧ t.rf.state = .idle

/-- FAILS stays, counts one failure, or is cleared by an acknowledgment. -/
def FailsMove (s t : State) : Prop := t.rf.fails = s.rf.fails ∨ SendFails s t ∨ SendAcknowledged s t

/-- A shutdown after a failure keeps the count and the event. -/
theorem SendFails.then_shutdown {s t : State} (h : SendFails s t) : SendFails s (shutdownSeq t) := by
  obtain ⟨counted, failed, idle⟩ := h
  obtain ⟨rest, hrest⟩ := (extends_shutdownSeq t).events
  refine ⟨by simpa using counted, ?_, shutdownSeq_rf_state_of_idle idle⟩
  rw [← hrest, List.drop_append]
  exact List.mem_append_left _ failed

theorem exhausted_sendFails : SendFails s (exhausted s) := by
  have failed : SendFails s (({ s with rf := { s.rf with fails := s.rf.fails + 1 } }.emit .rfFail).setRfState .idle) :=
    ⟨rfl, by simp, rfl⟩
  unfold exhausted
  dsimp only
  split
  · exact failed.then_shutdown
  · exact failed

theorem windowElapsed_failsMove : FailsMove s (windowElapsed s) := by
  unfold windowElapsed
  dsimp only
  split
  · exact .inr (.inl (exhausted_sendFails { s with rf := { s.rf with retry := s.rf.retry - 1 } }))
  · exact .inl (by simp)

theorem readAck_sendAcknowledged (wait : s.rf.state = .waitAck) : SendAcknowledged s (readAck s) :=
  ⟨rfl, by simp [readAck, State.acknowledge], wait, rfl⟩

theorem rfWaitAck_failsMove (wait : s.rf.state = .waitAck) : FailsMove s (rfWaitAck s) := by
  unfold rfWaitAck
  dsimp only
  split
  · exact .inr (.inr (readAck_sendAcknowledged (s.sampled .rfAck) wait))
  · split
    · exact windowElapsed_failsMove (s.sampled .rfAck)
    · exact .inl rfl

theorem radioStep_failsMove : FailsMove s (radioStep s) := by
  unfold radioStep
  split
  · exact .inl rfl
  · split
    · exact .inr (.inl (exhausted_sendFails s))
    · split
      case h_5 wait => exact rfWaitAck_failsMove s wait
      all_goals exact .inl (by simp)

theorem componentStep_failsMove (p : Fin 6) : FailsMove s (componentStep p s) := by
  unfold componentStep
  split
  case h_1 => exact radioStep_failsMove s
  all_goals exact .inl (by simp)

theorem schedulerStep_failsMove : FailsMove s (schedulerStep s) := by
  unfold schedulerStep
  split
  · exact componentStep_failsMove s s.iterPos
  · exact .inl rfl

theorem effect_failsMove {s t : State} (e : Effect s t) : FailsMove s t := by
  cases e
  case radio => exact radioStep_failsMove s
  case scheduler => exact schedulerStep_failsMove s
  all_goals exact .inl (by simp)

/-- Settles O43: of the effects of a command only the radio's step writes FAILS, alone or by the scheduler. -/
theorem failuresClearedOnlyByAnAcknowledgment : Obligations.FailuresClearedOnlyByAnAcknowledgment :=
  fun _ _ h changed => (step_as_effect (R := FailsMove) (fun _ _ h => h) (fun _ _ => .inl (by simp))
    effect_failsMove h).resolve_left changed

end Sys2Proof.Machine
end

section
/-! PROOFS. What writes RES (R70, R136). -/

namespace Sys2Proof.Machine

-- One proof after another: side by side, each keeps a thread waiting for the kernel.
set_option Elab.async false

open Sys2Proof.Laws

/-- The commands that R136 does not list leave RES. -/
theorem exec_keeps_res {i : Instr} {s t : State} (h : exec i s = .next t) (silent : writesResult i = false) :
    t.res = s.res := by
  cases i
  case cntRd | cntRdclr | cntChkrst | dispInc | dispValue | rfSend => cases silent
  all_goals obtain rfl := Host.Outcome.next.inj h
  case cntClr | dispSettings | rfConfig => split <;> simp
  all_goals simp

/-- The HOST writes RES only by a command of R136 that the port accepts. -/
theorem hostAgent_res {s t : State} (h : hostAgent s = .next t) (changed : t.res ≠ s.res) :
    ∃ w rest i, s.port = w :: rest ∧ decode w = .ok i ∧ writesResult i = true := by
  unfold hostAgent at h
  split at h
  · split at h
    · cases h
      exact absurd rfl changed
    · next w rest hport =>
      unfold runWord at h
      split at h
      · next i decoded =>
        refine ⟨w, rest, i, hport, decoded, ?_⟩
        by_contra silent
        exact changed (exec_keeps_res (s := s.accepted) h (by simpa using silent))
      · cases h
        exact absurd rfl changed
  · cases h
    exact absurd rfl changed

theorem foregroundAgent_res {s t : State} (h : foregroundAgent s = .next t) : t.res = s.res := by
  unfold foregroundAgent at h
  split at h <;> cases h <;> simp

/-- Settles O55: the TIMER's and the FOREGROUND's steps leave RES. -/
theorem onlySixCommandsWriteTheResult : Obligations.OnlySixCommandsWriteTheResult := by
  intro s t h changed
  unfold step at h
  split at h
  · cases h
    exact absurd (by simp) changed
  · exact absurd (foregroundAgent_res h) changed
  · next host => exact ⟨host, hostAgent_res (s := s.turnTaken) h changed⟩

end Sys2Proof.Machine
end

section
/-! PROOFS. The timeouts of a line that stays high (R252, R259). -/

namespace Sys2Proof.Machine

-- One proof after another: side by side, each keeps a thread waiting for the kernel.
set_option Elab.async false

open Sys2Proof.Laws

/-- One round of `LinkTimeoutsAreCounted`: ticks up to the timeout, the step to ERROR and the step back. -/
def timeoutRound (c : Config) : List Instr := List.replicate c.tTimeout .tick ++ [.irStep, .irStep]

/-- `t` follows on `s` after `n` timeouts of channel A, with the levels `rest` left. -/
structure TimedOut (s : State) (n : Nat) (rest : List (Line × Bool)) (t : State) : Prop where
  cfg    : t.cfg = s.cfg
  tick   : t.tickEn = true
  state  : t.ir.state = .idle .a
  broken : t.ir.broken.toNat = min (s.ir.broken.toNat + n) s.cfg.brokenCeil.toNat
  cnt    : t.cnt.ir = 0
  levels : t.env.levels = rest

/-- In A_IDLE the timeout wins over the line (R252). -/
theorem signalStep_idle_timeout {s : State} (idle : s.ir.state = .idle .a) (timeout : s.cfg.tTimeout ≤ s.cnt.ir) :
    signalStep s = (s.sampled .irInA).setIrState .error := by
  simp [signalStep, idle, irIdle, inputLine, timeout]

/-- The two IR steps of a timeout (R252, R259). -/
theorem irSteps_timedOut {s : State} {v : Bool} {rest : List (Line × Bool)} (idle : s.ir.state = .idle .a)
    (tick : s.tickEn = true) (timeout : s.cfg.tTimeout ≤ s.cnt.ir) (levels : s.env.levels = (.irInA, v) :: rest) :
    ∃ t, execList [.irStep, .irStep] s = .next t ∧ TimedOut s 1 rest t := by
  refine ⟨irError ((s.sampled .irInA).setIrState .error), ?_, ?_⟩
  · rw [execList_cons (t := signalStep s) rfl, execList_single, signalStep_idle_timeout idle timeout]
    rfl
  · exact ⟨by simp, by simpa using tick, rfl, by simp [irError, satInc_toNat], by simp [CounterBank.clear],
      by simpa [irError] using sampled_levels_of_cons levels⟩

theorem timeoutRound_timedOut {s : State} {v : Bool} {rest : List (Line × Bool)} (idle : s.ir.state = .idle .a)
    (zero : s.cnt.ir = 0) (tick : s.tickEn = true) (fits : s.cfg.tTimeout < 2 ^ s.cfg.cntWidth)
    (levels : s.env.levels = (.irInA, v) :: rest) :
    ∃ t, execList (timeoutRound s.cfg) s = .next t ∧ TimedOut s 1 rest t := by
  have ticks : execList (List.replicate s.cfg.tTimeout .tick) s =
      .next { s with cnt := (ticked s s.cfg.tTimeout).cnt } := by
    rw [execList_ticks s tick, ← ticked_eq]
  have elapsed : (ticked s s.cfg.tTimeout).cnt.ir = s.cfg.tTimeout := by
    rw [ticked_ir s _ (by omega), zero, Nat.zero_add]
  obtain ⟨t, steps, done⟩ :=
    irSteps_timedOut (s := { s with cnt := (ticked s s.cfg.tTimeout).cnt }) idle tick elapsed.ge levels
  exact ⟨t, execList_trans ticks steps, { done with }⟩

theorem TimedOut.trans {s t u : State} {m n : Nat} {levels rest : List (Line × Bool)} (h : TimedOut s m levels t)
    (h' : TimedOut t n rest u) : TimedOut s (m + n) rest u where
  cfg := h'.cfg.trans h.cfg
  tick := h'.tick
  state := h'.state
  broken := by
    rw [h'.broken, h.broken, h.cfg]
    omega
  cnt := h'.cnt
  levels := h'.levels

/-- Timeouts one after another, each with a sample of the line. -/
theorem timeoutRounds_timedOut {s : State} (n : Nat) {rest : List (Line × Bool)} (idle : s.ir.state = .idle .a)
    (zero : s.cnt.ir = 0) (tick : s.tickEn = true) (fits : s.cfg.tTimeout < 2 ^ s.cfg.cntWidth)
    (broken : s.ir.broken.toNat ≤ s.cfg.brokenCeil.toNat)
    (levels : s.env.levels = List.replicate n (.irInA, true) ++ rest) :
    ∃ t, execList (List.replicate n (timeoutRound s.cfg)).flatten s = .next t ∧ TimedOut s n rest t := by
  induction n generalizing s with
  | zero => exact ⟨s, rfl, rfl, tick, idle, by omega, zero, levels⟩
  | succ n ih =>
    obtain ⟨t, round, first⟩ := timeoutRound_timedOut idle zero tick fits levels
    have bounded : t.ir.broken.toNat ≤ t.cfg.brokenCeil.toNat := by
      rw [first.broken, first.cfg]
      exact Nat.min_le_right ..
    obtain ⟨u, rounds, others⟩ := ih first.state first.cnt first.tick (first.cfg ▸ fits) bounded first.levels
    refine ⟨u, ?_, Nat.add_comm 1 n ▸ first.trans others⟩
    rw [List.replicate_succ, List.flatten_cons]
    exact execList_trans round (first.cfg ▸ rounds)

/-- Settles O33, by induction on the number of timeouts. -/
theorem linkTimeoutsAreCounted : Obligations.LinkTimeoutsAreCounted := by
  intro s n rest idle zero tick fits broken levels
  obtain ⟨t, rounds, done⟩ := timeoutRounds_timedOut n idle zero tick fits broken levels
  exact ⟨t, rounds, done.state, done.broken, done.cnt, done.levels⟩

end Sys2Proof.Machine
end

section
/-! PROOFS. The frame of the digits (R206, R208). -/

namespace Sys2Proof.Machine

open Sys2Proof.Laws

variable {s : State} {st : Settings} {v : Quad (Fin 10)}

theorem digitIndex_of_toNat_eq {d : Byte} {i : Fin 10} (h : d.toNat = i) : digitIndex d = some i := by
  rw [digitIndex_of_le (h ▸ i.isLt)]
  exact congrArg some (Fin.ext h)

theorem checkDigits_of_toNat_eq {d : Quad Byte} (h0 : d.q0.toNat = v.q0) (h1 : d.q1.toNat = v.q1)
    (h2 : d.q2.toNat = v.q2) (h3 : d.q3.toNat = v.q3) : checkDigits d = .ok v := by
  simp only [checkDigits, digitIndex_of_toNat_eq h0, digitIndex_of_toNat_eq h1, digitIndex_of_toNat_eq h2,
    digitIndex_of_toNat_eq h3]

theorem frameOf_of_checkDigits (slot : slotOf s.cfg s.disp.setsel = some st) (digits : checkDigits s.disp.dig = .ok v) :
    s.frameOf = .ok (frameBitsOf s.cfg st v) := by
  simp [State.frameOf, digits, State.activeSlot, slot]

/-- A recompute past its guard whose digits are in range starts a scan of their frame (R208). -/
theorem recomputeFrame_of_frameOf {f : Nat} (dirty : s.disp.dirty = true)
    (complete : s.cfg.frameBits < s.disp.bitIdx.toNat) (frame : s.frameOf = .ok f) :
    recomputeFrame s = s.startScan f := by
  have due : s.recomputeDue = true := (recomputeDue_eq_true s).mpr ⟨dirty, complete⟩
  simp [recomputeFrame, due, frame]

/-- Settles O21: the frame is an OR, so its bits are those of the always-on mask and of each position. -/
theorem recomputeBuildsTheFrame : Obligations.RecomputeBuildsTheFrame := by
  intro s st v dirty complete slot h0 h1 h2 h3
  have frame : s.frameOf = .ok (frameBitsOf s.cfg st v) :=
    frameOf_of_checkDigits slot (checkDigits_of_toNat_eq h0 h1 h2 h3)
  refine ⟨frameBitsOf s.cfg st v, congrArg _ (recomputeFrame_of_frameOf dirty complete frame), fun j => ?_⟩
  simp only [frameBitsOf, Nat.testBit_or, testBit_segmentBits, Bool.or_assoc]

end Sys2Proof.Machine
end

section
/-! PROOFS. A complete scan (R207, R210, R212): bits shifted out one after another, then the latch pulse. -/

namespace Sys2Proof.Machine

open Sys2Proof.Laws

/-! ### The shift register over a list of bits (R210) -/

theorem foldl_shiftIn_lt {n x : Nat} {bits : List Bool} (nonempty : bits ≠ []) :
    bits.foldl (shiftIn n) x < 2 ^ n := by
  rw [← List.dropLast_append_getLast nonempty, List.foldl_append]
  exact shiftIn_lt ..

/-- The bit shifted in `i`-th of `k` is pushed up by the `k - 1 - i` bits after it. -/
theorem testBit_foldl_shiftIn {n k : Nat} (fits : k ≤ n) (f : Nat → Bool) (x : Nat) {i : Nat} (hi : i < k) :
    (((List.range k).map f).foldl (shiftIn n) x).testBit (k - 1 - i) = f i := by
  induction k with
  | zero => omega
  | succ k ih =>
    rw [List.range_succ, List.map_append, List.foldl_append, List.map_singleton, List.foldl_cons, List.foldl_nil,
      testBit_shiftIn, decide_eq_true (by omega : k + 1 - 1 - i < n), Bool.true_and]
    obtain last | earlier : i = k ∨ i < k := by omega
    · rw [if_pos (by omega), last]
    · rw [if_neg (by omega), show k + 1 - 1 - i - 1 = k - 1 - i by omega]
      exact ih (by omega) earlier

/-! ### The state after bits shifted out (R207) -/

@[simp] theorem foldl_shiftOut_frame (s : State) (bits : List Bool) :
    (bits.foldl State.shiftOut s).cfg = s.cfg ∧ (bits.foldl State.shiftOut s).disp.frame = s.disp.frame := by
  induction bits generalizing s with
  | nil => simp
  | cons b bits ih => simp [ih]

/-- A nonempty run of bits is shifted into the register, and the serial line keeps the last of them. -/
theorem foldl_shiftOut_append_singleton (s : State) (bits : List Bool) (b : Bool) :
    (bits ++ [b]).foldl State.shiftOut s =
      { s with disp := { s.disp with ser := b, srclk := false,
                                     srShift := (bits ++ [b]).foldl (shiftIn s.cfg.frameBits) s.disp.srShift },
               out := { s.out with pins := s.out.pins ++ scanTrace (bits ++ [b]) } } := by
  induction bits generalizing s with
  | nil => simp [shiftOut_eq]
  | cons b' bits ih => simp [ih, shiftOut_eq, scanTrace]

/-! ### The scan (R207) -/

/-- A bit index of a legal width fits BITIDX (R8, R41). -/
theorem toNat_ofNat_bitIdx {k : Nat} (hk : k ≤ 254) : (BitVec.ofNat 8 k).toNat = k :=
  (BitVec.toNat_ofNat k 8).trans (Nat.mod_eq_of_lt (by omega))

/-- Below FRAME_BITS the command shifts out one bit of FRAME. -/
theorem advanceScan_setBitIdx_of_lt {s : State} {k : Nat} (width : s.cfg.frameBits ≤ 254) (hk : k < s.cfg.frameBits) :
    advanceScan (s.setBitIdx (BitVec.ofNat 8 k)) =
      (s.shiftOut (s.disp.frame.testBit k)).setBitIdx (BitVec.ofNat 8 (k + 1)) := by
  have index : (BitVec.ofNat 8 k).toNat = k := toNat_ofNat_bitIdx (by omega)
  simp only [advanceScan, setBitIdx_disp, setBitIdx_cfg, index, if_pos hk, BitVec.ofNat_add]
  rfl

/-- At FRAME_BITS the command is the latch pulse. -/
theorem advanceScan_setBitIdx_frameBits {s : State} (width : s.cfg.frameBits ≤ 254) :
    advanceScan (s.setBitIdx (BitVec.ofNat 8 s.cfg.frameBits)) =
      (s.pulse .dspRclk).setBitIdx (scanComplete s.cfg) := by
  simp only [advanceScan, setBitIdx_disp, setBitIdx_cfg, toNat_ofNat_bitIdx width, lt_irrefl, if_false, if_true]
  rfl

/-- Up to FRAME_BITS commands from BITIDX = 0 shift out as many bits of FRAME, bit 0 first. -/
theorem execList_dispAdv {s : State} (start : s.disp.bitIdx = 0) (width : s.cfg.frameBits ≤ 254) {k : Nat}
    (hk : k ≤ s.cfg.frameBits) : execList (List.replicate k .dispAdv) s =
      .next ((((List.range k).map s.disp.frame.testBit).foldl State.shiftOut s).setBitIdx (BitVec.ofNat 8 k)) := by
  induction k with
  | zero =>
    rw [show BitVec.ofNat 8 0 = s.disp.bitIdx from start.symm]
    rfl
  | succ k ih =>
    rw [List.replicate_succ', execList_append (ih (by omega)), execList_single, List.range_succ]
    simp only [exec, execDispAdv]
    rw [advanceScan_setBitIdx_of_lt (by simpa using width) (by simpa using hk)]
    simp

/-- Settles O25: the bits are shifted out by induction on their number, and the latch pulse copies the register. -/
theorem scanLatchesTheReversedFrame : Obligations.ScanLatchesTheReversedFrame := by
  intro s start nonempty width
  obtain ⟨n, hn⟩ : ∃ n, s.cfg.frameBits = n + 1 := ⟨s.cfg.frameBits - 1, by omega⟩
  refine ⟨((List.range s.cfg.frameBits).map s.disp.frame.testBit).foldl (shiftIn s.cfg.frameBits) s.disp.srShift,
    ?_, foldl_shiftIn_lt (by simp; omega), fun i hi => testBit_foldl_shiftIn le_rfl _ _ hi⟩
  have latch := advanceScan_setBitIdx_frameBits
    (s := ((List.range s.cfg.frameBits).map s.disp.frame.testBit).foldl State.shiftOut s) (by simpa using width)
  rw [(foldl_shiftOut_frame s _).1] at latch
  rw [List.replicate_succ', execList_append (execList_dispAdv start width le_rfl), execList_single]
  simp only [exec, execDispAdv]
  rw [latch, hn, List.range_succ, List.map_append, List.map_singleton, foldl_shiftOut_append_singleton, latch_eq]
  simp [State.setBitIdx, scanComplete, hn]

end Sys2Proof.Machine
end

section
/-! PROOFS. Component steps in fair runs (R119, R350, R373). -/

namespace Sys2Proof.Machine

open Sys2Proof.Laws

/-- Step `m` of the run is the component step of the place it has reached (R350). -/
def TakesComponentStep (x : Nat → State) (m : Nat) : Prop :=
  ∃ u t env port, (u = (x m).turnTaken ∨ u = (x m).turnTaken.accepted) ∧
    exec (componentCommand (x m).iterPos) u = .next t ∧
    x (m + 1) = { t with iterPos := (x m).iterPos + 1, env := env, port := port }

variable {x : Nat → State}

theorem TakesComponentStep.iterPos_succ {m : Nat} (h : TakesComponentStep x m) :
    (x (m + 1)).iterPos = (x m).iterPos + 1 := by
  obtain ⟨u, t, env, port, -, -, next⟩ := h
  rw [next]

/-- A step of a run leaves ITER_POS alone or is a component step. -/
theorem IsRun.iterPos_eq_or_takesComponentStep (run : IsRun x) (m : Nat) :
    (x (m + 1)).iterPos = (x m).iterPos ∨ TakesComponentStep x m := by
  obtain ⟨t, env, port, stepped, next⟩ := run m
  obtain same | ⟨-, u, hu, rfl⟩ := step_iterPos stepped
  · exact .inl (by rw [next, ← same])
  · exact .inr ⟨u, _, env, port, hu, exec_componentCommand _ u, next⟩

/-- In RUN the FOREGROUND's step is a component step (R349). -/
theorem IsRun.takesComponentStep_of_foreground (run : IsRun x) {m : Nat} (agent : (x m).nextAgent = .foreground)
    (running : (x m).sys = .run) : TakesComponentStep x m := by
  obtain ⟨t, env, port, stepped, next⟩ := run m
  have scheduled : t = schedulerStep (x m).turnTaken := by
    simpa [step, agent, foregroundAgent, running] using stepped.symm
  refine ⟨_, _, env, port, .inl rfl, exec_componentCommand _ _, ?_⟩
  rw [next, scheduled, schedulerStep, turnTaken_sys, if_pos running, turnTaken_iterPos]

/-- Up to a step of the FOREGROUND in RUN the place reached is taken. -/
theorem IsRun.takesComponentStep_before (run : IsRun x) (d : Nat) {n : Nat}
    (agent : (x (n + d)).nextAgent = .foreground) (running : (x (n + d)).sys = .run) :
    ∃ m, n ≤ m ∧ (x m).iterPos = (x n).iterPos ∧ TakesComponentStep x m := by
  induction d generalizing n with
  | zero => exact ⟨n, le_rfl, rfl, run.takesComponentStep_of_foreground agent running⟩
  | succ d ih =>
    obtain same | taken := run.iterPos_eq_or_takesComponentStep n
    · rw [← Nat.add_assoc, Nat.add_right_comm] at agent running
      obtain ⟨m, hm, place, taken⟩ := ih agent running
      exact ⟨m, by omega, place.trans same, taken⟩
    · exact ⟨n, le_rfl, rfl, taken⟩

/-- A fair run leaves RUN or takes the place it has reached (R119). -/
theorem Fair.takesComponentStep (fair : Fair x) (run : IsRun x) (n : Nat) :
    ∃ m, n ≤ m ∧ ((x m).sys ≠ .run ∨ ((x m).iterPos = (x n).iterPos ∧ TakesComponentStep x m)) := by
  obtain ⟨m, hm, agent | ⟨left, -⟩⟩ := fair.foreground n
  · by_cases running : (x m).sys = .run
    · rw [← Nat.add_sub_cancel' hm] at agent running
      obtain ⟨m', hm', taken⟩ := run.takesComponentStep_before (m - n) agent running
      exact ⟨m', hm', .inr taken⟩
    · exact ⟨m, hm, .inl running⟩
  · exact ⟨m, hm, .inl left⟩

/-- A fair run leaves RUN or takes the place `k` places on. -/
theorem Fair.takesComponentStep_after (fair : Fair x) (run : IsRun x) (k n : Nat) {p : Fin 6}
    (place : p.val = ((x n).iterPos.val + k) % 6) :
    ∃ m, n ≤ m ∧ ((x m).sys ≠ .run ∨ ((x m).iterPos = p ∧ TakesComponentStep x m)) := by
  induction k generalizing n with
  | zero =>
    obtain rfl : p = (x n).iterPos := by omega
    exact fair.takesComponentStep run n
  | succ k ih =>
    obtain ⟨m, hm, left | ⟨here, taken⟩⟩ := fair.takesComponentStep run n
    · exact ⟨m, hm, .inl left⟩
    · have moved : (x (m + 1)).iterPos = (x n).iterPos + 1 := here ▸ taken.iterPos_succ
      obtain ⟨m', hm', found⟩ := ih (m + 1) (by rw [moved, Fin.val_add]; omega)
      exact ⟨m', by omega, found⟩

/-- Settles O47: every place is at most five component steps away from the one reached. -/
theorem fairRunsTakeEveryComponentStep : Obligations.FairRunsTakeEveryComponentStep := by
  intro x run fair p n
  obtain ⟨m, hm, left | ⟨rfl, taken⟩⟩ :=
    fair.takesComponentStep_after run (p.val + 6 - (x n).iterPos.val) n (p := p) (by omega)
  · exact ⟨m, hm, .inl left⟩
  · exact ⟨m, hm, .inr ⟨rfl, taken⟩⟩

end Sys2Proof.Machine
end

section
/-! PROOFS. The encoding (R131 to R138): the opcode map against its list, and the two directions of the round trip. -/

namespace Sys2Proof.Machine

open Sys2Proof.Laws

/-! ### The opcode map (R134) -/

/-- The opcode map lists what `opcodeFormats` lists. -/
theorem opcodeRow_fmt_iff (opc : Byte) (fmt : Format) :
    (∃ r, opcodeRow opc = some r ∧ r.fmt = fmt) ↔ (opc, fmt) ∈ opcodeFormats := by
  constructor
  · rintro ⟨r, row, rfl⟩
    unfold opcodeRow at row
    split at row <;> cases row <;> decide
  · have listed : ∀ p ∈ opcodeFormats, (opcodeRow p.1).map OpcodeRow.fmt = some p.2 := by decide
    exact fun h => Option.map_eq_some_iff.mp (listed _ h)

theorem opcodeRow_eq_none_iff (opc : Byte) : opcodeRow opc = none ↔ ∀ fmt, (opc, fmt) ∉ opcodeFormats := by
  simp only [← opcodeRow_fmt_iff, Option.eq_none_iff_forall_ne_some]
  exact ⟨fun h fmt ⟨r, row, _⟩ => h r row, fun h r row => h r.fmt ⟨r, row, rfl⟩⟩

/-! ### What decode answers (R135, R138) -/

theorem decode_eq_illegalOpc_iff (w : Word) : decode w = .error .illegalOpc ↔ opcodeRow (fieldOpc w) = none := by
  unfold decode
  cases opcodeRow (fieldOpc w) with
  | none => simp
  | some r => dsimp only; split <;> simp

theorem decode_eq_reservedBits_iff (w : Word) : decode w = .error .reservedBits ↔
    ∃ r, opcodeRow (fieldOpc w) = some r ∧ w &&& ~~~(fieldMask r.fmt) ≠ 0 := by
  unfold decode
  cases opcodeRow (fieldOpc w) with
  | none => simp
  | some r => dsimp only; split <;> simp_all

theorem decode_eq_ok_iff (w : Word) (i : Instr) : decode w = .ok i ↔
    ∃ r, opcodeRow (fieldOpc w) = some r ∧ w &&& ~~~(fieldMask r.fmt) = 0 ∧ r.build w = i := by
  unfold decode
  cases opcodeRow (fieldOpc w) with
  | none => simp
  | some r => dsimp only; split <;> simp_all

/-- A claim about the format of the opcode's row, told by the list. -/
theorem exists_opcodeRow_iff (opc : Byte) (P : Format → Prop) :
    (∃ r, opcodeRow opc = some r ∧ P r.fmt) ↔ ∃ fmt, (opc, fmt) ∈ opcodeFormats ∧ P fmt := by
  simp only [← opcodeRow_fmt_iff]
  exact ⟨fun ⟨r, row, h⟩ => ⟨_, ⟨r, row, rfl⟩, h⟩, fun ⟨_, ⟨r, row, hr⟩, h⟩ => ⟨r, row, hr ▸ h⟩⟩

/-- Settles O4: decode rejects by the map and the mask; R138's mask test is R132's field test. -/
theorem decodeRejectsByName : Obligations.DecodeRejectsByName := by
  intro w
  have accepts : (∃ i, decode w = .ok i) ↔
      ∃ fmt, (fieldOpc w, fmt) ∈ opcodeFormats ∧ w &&& ~~~(fieldMask fmt) = 0 := by
    simp only [decode_eq_ok_iff, ← exists_opcodeRow_iff _ fun fmt => w &&& ~~~(fieldMask fmt) = 0]
    exact ⟨fun ⟨_, r, row, zero, _⟩ => ⟨r, row, zero⟩, fun ⟨r, row, zero⟩ => ⟨_, r, row, zero, rfl⟩⟩
  exact ⟨(decode_eq_illegalOpc_iff w).trans (opcodeRow_eq_none_iff _),
    (decode_eq_reservedBits_iff w).trans (exists_opcodeRow_iff _ fun fmt => w &&& ~~~(fieldMask fmt) ≠ 0),
    accepts, by simpa only [reserved_iff] using accepts⟩

/-! ### From a command to its word and back (R138) -/

/-- A packed word whose reserved fields are zero decodes by its opcode's row. -/
theorem decode_packWord {opc a : Byte} {q : Quad Byte} {t : Half} {r : OpcodeRow} (row : opcodeRow opc = some r)
    (reserved : reservedZero r.fmt (packWord opc a q t)) :
    decode (packWord opc a q t) = .ok (r.build (packWord opc a q t)) :=
  (decode_eq_ok_iff _ _).mpr ⟨r, by rwa [fieldOpc_packWord], (reserved_iff _ _).mpr reserved, rfl⟩

/-- A is W[55:48] (R131). -/
theorem getLsbD_fieldA (w : Word) {j : Nat} (hj : j < 8) : (fieldA w).getLsbD j = w.getLsbD (48 + j) := by
  simp [fieldA, hj]

/-- Format F's operands W[49] and W[48] are the two low bits of A (R133). -/
theorem getLsbD_packWord_sendBits {opc a : Byte} {q : Quad Byte} {t : Half} :
    (packWord opc a q t).getLsbD 49 = a.getLsbD 1 ∧ (packWord opc a q t).getLsbD 48 = a.getLsbD 0 :=
  ⟨by rw [← getLsbD_fieldA _ (j := 1) (by decide), fieldA_packWord],
    by rw [← getLsbD_fieldA _ (j := 0) (by decide), fieldA_packWord]⟩

/-- Settles O2: the reserved fields of an encoding are zero, and each operand is read from where it was packed. -/
theorem decodeOfEncodeIsTheCommand : Obligations.DecodeOfEncodeIsTheCommand := by
  intro i
  cases i
  case rfSend btn sig =>
    refine (decode_packWord rfl ?reserved).trans ?operands
    case reserved => cases btn <;> cases sig <;> simp [reservedZero, zeroQuad]
    case operands =>
      simp only [getLsbD_packWord_sendBits]
      cases btn <;> cases sig <;> rfl
  all_goals exact (decode_packWord rfl (by simp [reservedZero, zeroQuad])).trans (by simp)

/-! ### From a word to its command and back (R137, R138) -/

theorem fieldMask_eq_packWord (fmt : Format) : fieldMask fmt =
    match fmt with
    | .n => packWord (.allOnes 8) 0 zeroQuad 0
    | .i => packWord (.allOnes 8) (.allOnes 8) zeroQuad 0
    | .it => packWord (.allOnes 8) (.allOnes 8) zeroQuad (.allOnes 16)
    | .q => packWord (.allOnes 8) 0 ⟨.allOnes 8, .allOnes 8, .allOnes 8, .allOnes 8⟩ 0
    | .f => packWord (.allOnes 8) 3 zeroQuad 0
    | .p => packWord (.allOnes 8) (.allOnes 8) ⟨.allOnes 8, 0, 0, 0⟩ 0 := by
  cases fmt <;> decide

/-- What a format's mask leaves of a word, field by field (R132, R138). -/
theorem word_and_fieldMask (fmt : Format) (w : Word) : w &&& fieldMask fmt =
    match fmt with
    | .n => packN (fieldOpc w)
    | .i => packI (fieldOpc w) (fieldA w)
    | .it => packWord (fieldOpc w) (fieldA w) zeroQuad (fieldT w)
    | .q => packWord (fieldOpc w) 0 (fieldQuad w) 0
    | .f => packI (fieldOpc w) (fieldA w &&& 3)
    | .p => packWord (fieldOpc w) (fieldA w) ⟨fieldQ0 w, 0, 0, 0⟩ 0 := by
  conv_lhs => rw [← packWord_fields w]
  rw [fieldMask_eq_packWord]
  cases fmt <;> simp only [packWord_and, packN, packI, zeroQuad, fieldQuad, fieldQ0, BitVec.ofNat_eq_ofNat,
    BitVec.and_allOnes, BitVec.and_zero]

/-- The operands of format F, packed again, are what its mask leaves of A (R133). -/
theorem ofBool_append_ofBool_sendBits (w : Word) :
    0#6 ++ BitVec.ofBool (w.getLsbD 49) ++ BitVec.ofBool (w.getLsbD 48) = fieldA w &&& 3 := by
  rw [← getLsbD_fieldA w (j := 1) (by decide), ← getLsbD_fieldA w (j := 0) (by decide)]
  generalize fieldA w = a
  revert a
  decide

/-- The command that a row builds encodes the bits its format carries, the others zero. -/
theorem encode_build {w : Word} {r : OpcodeRow} (row : opcodeRow (fieldOpc w) = some r) :
    encode (r.build w) = w &&& fieldMask r.fmt := by
  rw [word_and_fieldMask]
  unfold opcodeRow at row
  split at row <;> cases row
  all_goals
    next opc =>
      simp only [opc, encode, ofBool_append_ofBool_sendBits]
      rfl

/-- Settles O3: a word without a bit outside its format's mask is what the mask leaves of it. -/
theorem encodeOfDecodeIsTheWord : Obligations.EncodeOfDecodeIsTheWord := by
  intro w i decoded
  obtain ⟨r, row, reserved, rfl⟩ := (decode_eq_ok_iff w i).mp decoded
  calc encode (r.build w)
    _ = w &&& fieldMask r.fmt := encode_build row
    _ = w &&& fieldMask r.fmt ||| w &&& ~~~(fieldMask r.fmt) := by rw [reserved]; exact BitVec.or_zero.symm
    _ = w := by rw [← BitVec.and_or_distrib_left, BitVec.or_not_self, BitVec.and_allOnes]

/-- Settles O1: each word is evaluated. -/
theorem wordsWrittenOutDecode : Obligations.WordsWrittenOutDecode :=
  ⟨rfl, rfl, rfl, rfl, rfl, rfl, rfl, rfl⟩

end Sys2Proof.Machine
end

section
/-! PROOFS. The steps of the agents (R6, R130, R349). -/

namespace Sys2Proof.Machine

open Sys2Proof.Laws

variable {s : State}

theorem step_of_timer (agent : s.nextAgent = .timer) : step s = timerAgent s.turnTaken := by
  simp only [step, agent]

theorem step_of_foreground (agent : s.nextAgent = .foreground) : step s = foregroundAgent s.turnTaken := by
  simp only [step, agent]

theorem step_of_host (agent : s.nextAgent = .host) : step s = hostAgent s.turnTaken := by
  simp only [step, agent]

/-- While the machine works, the HOST's step runs the first word offered, which leaves the port (R130). -/
theorem step_of_offered {w : Word} {rest : List Word} (agent : s.nextAgent = .host) (live : s.live)
    (port : s.port = w :: rest) : step s = runWord w { s.turnTaken with port := rest } := by
  have served : s.turnTaken.portServed = true := (portServed_eq_true _).mpr live
  rw [step_of_host agent, hostAgent, if_pos served]
  simp only [turnTaken_port, port, State.accepted, List.tail_cons]

/-- Settles O5: the word that runs is decoded to the command. -/
theorem stepRunsTheDecodedCommand : Obligations.StepRunsTheDecodedCommand := by
  intro s w rest i agent live port decoded
  rw [step_of_offered agent live port, runWord, decoded]
  rfl

/-- Settles O6: the word that runs raises the fault of its decode error. -/
theorem wordThatIsNoCommandOnlyRecordsAFault : Obligations.WordThatIsNoCommandOnlyRecordsAFault := by
  intro s w rest e agent live port rejected
  rw [step_of_offered agent live port, runWord, rejected]
  cases e <;> rfl

/-- The release wait's step in SD_WAIT (R349, R360). -/
theorem step_of_releaseWait (agent : s.nextAgent = .foreground) (wait : s.sys = .sdWait) :
    step s = .next (releaseWait s.turnTaken) := by
  simp only [step_of_foreground agent, foregroundAgent, turnTaken_sys, wait]

/-- Settles O9: each agent's step from the state with the turn taken. -/
theorem agentSteps : Obligations.AgentSteps := by
  intro s u e
  refine ⟨step_of_timer, fun agent boot => ?boot, fun agent run => ?run, fun agent wait pressed => ?pressed,
    fun agent wait released => ?released, fun agent halted => ?halted, fun agent down => ?closed⟩
  case boot => simp only [step_of_foreground agent, foregroundAgent, turnTaken_sys, boot]; rfl
  case run => simp only [step_of_foreground agent, foregroundAgent, turnTaken_sys, run]; rfl
  case pressed => exact (step_of_releaseWait agent wait).trans (congrArg _ (if_pos pressed))
  case released =>
    have notPressed : ¬ u.level .button = true := by simp [released]
    exact (step_of_releaseWait agent wait).trans (congrArg _ (if_neg notPressed))
  case halted => simp only [step_of_foreground agent, foregroundAgent, turnTaken_sys, halted]; rfl
  case closed =>
    have unserved : s.turnTaken.portServed = false := (portServed_eq_false _).mpr down
    simp only [step_of_host agent, hostAgent, unserved]
    rfl

end Sys2Proof.Machine
end

section
/-! PROOFS. The counter bank's commands (R170 to R176). -/

namespace Sys2Proof.Machine

open Sys2Proof.Laws

variable {s : State} {i : Byte} {v : Nat}

/-! ### What each command answers -/

theorem exec_tick_of_enabled (h : s.tickEn = true) :
    exec .tick s = .next { s with cnt := s.cnt.tick s.cfg.cntWidth } :=
  congrArg Host.Outcome.next (if_pos h)

theorem exec_tick_of_disabled (h : s.tickEn = false) : exec .tick s = .next s :=
  congrArg Host.Outcome.next (if_neg (by simp [h]))

theorem exec_cntRd (h : s.cnt.get? i.toNat = some v) : exec (.cntRd i) s = .next (s.setRes (counterResult v)) := by
  simp only [exec, execCntRd, State.counterOperand, h]

theorem exec_cntClr (h : s.cnt.get? i.toNat = some v) : exec (.cntClr i) s = .next (s.clearCounter i.toNat) := by
  simp only [exec, execCntClr, State.counterOperand, h]

theorem exec_cntRdclr (h : s.cnt.get? i.toNat = some v) :
    exec (.cntRdclr i) s = .next ((s.setRes (counterResult v)).clearCounter i.toNat) := by
  simp only [exec, execCntRdclr, State.counterOperand, h]

theorem exec_cntChkrst (thr : Half) (h : s.cnt.get? i.toNat = some v) :
    exec (.cntChkrst i thr) s =
      .next (if thr.toNat ≤ v then (s.clearCounter i.toNat).setRes 1 else s.setRes 0) := by
  simp only [exec, execCntChkrst, State.counterOperand, h, reached_eq_true, bitResult, if_true, Bool.false_eq_true,
    if_false]

/-- A counter command whose index has no counter records BAD_OPERAND with its own word, and nothing else (R171 to R174). -/
theorem exec_counterCommand_of_size_le {c : Instr}
    (hc : c = .cntRd i ∨ c = .cntClr i ∨ c = .cntRdclr i ∨ ∃ thr, c = .cntChkrst i thr)
    (h : s.cnt.size ≤ i.toNat) : exec c s = .next (s.raiseFault .badOperand (encode c)) := by
  have noCounter : s.counterOperand i = none := (get?_eq_none_iff ..).mpr h
  obtain rfl | rfl | rfl | ⟨thr, rfl⟩ := hc
  · simp only [exec, execCntRd, noCounter]
  · simp only [exec, execCntClr, noCounter]
  · simp only [exec, execCntRdclr, noCounter]
  · simp only [exec, execCntChkrst, noCounter]

/-! ### A counter after its reset -/

/-- The reset of a counter there is: its value before, 0 in it, the others as they were (R172). -/
theorem exists_reset {b : CounterBank} {j : Nat} (h : j < b.size) :
    ∃ v, b.get? j = some v ∧ (b.clear j).get? j = some 0 ∧ ∀ k, k ≠ j → (b.clear j).get? k = b.get? k := by
  obtain ⟨v, hv⟩ := (get?_isSome_iff ..).mpr h
  exact ⟨v, hv, by rw [get?_clear_self, hv, Option.map_some], fun k hk => get?_clear_ne _ hk.symm⟩

/-- Every tick adds 1 modulo 2^CNT_WIDTH, so a counter that was 0 holds the number of ticks modulo 2^CNT_WIDTH. -/
theorem get?_ticked_of_zero {j : Nat} (h : s.cnt.get? j = some 0) (k : Nat) :
    (ticked s k).cnt.get? j = some (k % 2 ^ s.cfg.cntWidth) := by
  induction k with
  | zero => rw [Nat.zero_mod]; exact h
  | succ k ih => rw [ticked, get?_tick, ih, Option.map_some, tickValue, Nat.mod_add_mod]

/-- CNT.CLR and k ticks leave k modulo 2^CNT_WIDTH in the counter (R176). -/
theorem execList_cntClr_ticks (enabled : s.tickEn = true) (h : i.toNat < s.cnt.size) (k : Nat) :
    ∃ t, execList ([.cntClr i] ++ List.replicate k .tick) s = .next t ∧
      t.cnt.get? i.toNat = some (k % 2 ^ s.cfg.cntWidth) := by
  obtain ⟨v, hv, zero, -⟩ := exists_reset h
  have reset : execList [.cntClr i] s = .next (s.clearCounter i.toNat) := by rw [execList_single, exec_cntClr hv]
  exact ⟨_, execList_trans reset (execList_ticks (s.clearCounter i.toNat) enabled k), get?_ticked_of_zero zero k⟩

/-! ### The obligations -/

/-- Settles O14, by induction on the number of ticks after the reset. -/
theorem counterHoldsTheTicksSinceItsReset : Obligations.CounterHoldsTheTicksSinceItsReset := by
  intro s i k thr enabled h
  obtain ⟨u, run, value⟩ := execList_cntClr_ticks enabled h k
  refine ⟨⟨_, by rw [execList_append run, execList_single, exec_cntRd value], rfl⟩,
    ⟨_, by rw [execList_append run, execList_single, exec_cntChkrst thr value], ?_⟩⟩
  split <;> rfl

/-- Settles O10: the tick of the bank, index by index. -/
theorem tickAdvancesEveryCounter : Obligations.TickAdvancesEveryCounter := fun _ =>
  ⟨fun enabled => ⟨_, exec_tick_of_enabled enabled, tick_size .., get?_tick _ _⟩, exec_tick_of_disabled⟩

/-- Settles O11: the index names a counter exactly below NUM_COUNTERS. -/
theorem counterRead : Obligations.CounterRead := by
  intro s i
  refine ⟨fun h => ?_, exec_counterCommand_of_size_le (.inl rfl)⟩
  obtain ⟨v, hv⟩ := (get?_isSome_iff ..).mpr h
  exact ⟨v, hv, exec_cntRd hv⟩

/-- Settles O12: both commands reset the bank at the index. -/
theorem counterResets : Obligations.CounterResets := by
  intro s i
  refine ⟨fun h => ?_, fun h => ⟨exec_counterCommand_of_size_le (.inr (.inl rfl)) h,
    exec_counterCommand_of_size_le (.inr (.inr (.inl rfl))) h⟩⟩
  obtain ⟨v, hv, zero, others⟩ := exists_reset h
  exact ⟨v, _, hv, zero, others, exec_cntClr hv, exec_cntRdclr hv⟩

/-- Settles O13: the reset is of the bank at the index, on the branch that meets the threshold. -/
theorem counterCheckAndReset : Obligations.CounterCheckAndReset := by
  intro s i thr
  refine ⟨fun h => ?_, exec_counterCommand_of_size_le (.inr (.inr (.inr ⟨thr, rfl⟩)))⟩
  obtain ⟨v, hv, zero, others⟩ := exists_reset h
  exact ⟨v, _, hv, zero, others, exec_cntChkrst thr hv⟩

end Sys2Proof.Machine
end

section
/-! PROOFS. Counting with DISP.INC (R200): one position, the loop over the four of them, and the number they stand
for. -/

namespace Sys2Proof.Machine

open Sys2Proof.Laws

variable {d m : Quad Byte}

/-! ### One position -/

/-- A position wraps when it is reached by the carry and the incremented value reaches the maximum. -/
theorem incDigit_snd (c : Bool) (d m : Byte) : (incDigit c d m).2 = (c && decide (m.toNat ≤ d.toNat + 1)) := by
  unfold incDigit
  split
  · next carry => split <;> simp [*]
  · next kept => simp [kept]

/-- A wrapped position is 0. The increment of one that does not wrap is exact, since it stays below an 8-bit maximum. -/
theorem incDigit_fst_toNat (c : Bool) (d m : Byte) : (incDigit c d m).1.toNat =
    if (c && decide (m.toNat ≤ d.toNat + 1)) = true then 0 else if c = true then d.toNat + 1 else d.toNat := by
  unfold incDigit
  split
  · next carry =>
    split
    · next wraps => simp [carry, wraps]
    · next fits =>
      have exact_sum : (d + 1).toNat = d.toNat + 1 := by bv_omega
      rw [exact_sum, if_neg (by simp [fits])]
  · next kept => simp [kept]

/-- A position below its maximum stays below it. -/
theorem incDigit_lt (c : Bool) {d m : Byte} (h : d < m) : (incDigit c d m).1 < m := by
  rw [BitVec.lt_def] at h ⊢
  rw [incDigit_fst_toNat]
  cases c with
  | false => simpa using h
  | true =>
    simp only [Bool.true_and, decide_eq_true_eq, if_true]
    split <;> omega

/-- A position below its maximum adds the carry in to its digit, and a carry out stands for its maximum. -/
theorem incDigit_value (c : Bool) {d m : Byte} (h : d < m) :
    (incDigit c d m).1.toNat + m.toNat * (incDigit c d m).2.toNat = d.toNat + c.toNat := by
  rw [BitVec.lt_def] at h
  rw [incDigit_fst_toNat, incDigit_snd]
  cases c with
  | false => simp
  | true =>
    by_cases wraps : m.toNat ≤ d.toNat + 1
    · simp [wraps]
      omega
    · simp [wraps]

/-! ### The four positions -/

theorem increase_digitsBelow (h : digitsBelow d m) : digitsBelow (increase d m).1 m := by
  obtain ⟨h0, h1, h2, h3⟩ := h
  exact ⟨incDigit_lt _ h0, incDigit_lt _ h1, incDigit_lt _ h2, incDigit_lt _ h3⟩

/-- The loop adds 1 to the number, and the carry out of position 3 stands for the number of values. -/
theorem mixedValue_increase (h : digitsBelow d m) :
    mixedValue (increase d m).1 m + mixedSize m * (increase d m).2.toNat = mixedValue d m + 1 := by
  obtain ⟨h0, h1, h2, h3⟩ := h
  have v0 : _ = _ + 1 := incDigit_value true h0
  have v1 := incDigit_value (incDigit true d.q0 m.q0).2 h1
  have v2 := incDigit_value (incDigit (incDigit true d.q0 m.q0).2 d.q1 m.q1).2 h2
  have v3 := incDigit_value (incDigit (incDigit (incDigit true d.q0 m.q0).2 d.q1 m.q1).2 d.q2 m.q2).2 h3
  simp only [increase, mixedValue, mixedSize]
  linear_combination v0 + m.q0.toNat * v1 + m.q0.toNat * m.q1.toNat * v2 + m.q0.toNat * m.q1.toNat * m.q2.toNat * v3

theorem mixedValue_lt_mixedSize (h : digitsBelow d m) : mixedValue d m < mixedSize m := by
  obtain ⟨h0, h1, h2, h3⟩ := h
  exact Nat.add_mul_lt_mul_of_lt_of_lt h0 (Nat.add_mul_lt_mul_of_lt_of_lt h1 (Nat.add_mul_lt_mul_of_lt_of_lt h2 h3))

/-- The loop adds 1 modulo the number of values. -/
theorem mixedValue_increase_eq_mod (h : digitsBelow d m) :
    mixedValue (increase d m).1 m = (mixedValue d m + 1) % mixedSize m := by
  rw [← mixedValue_increase h, Nat.add_mul_mod_self_left,
    Nat.mod_eq_of_lt (mixedValue_lt_mixedSize (increase_digitsBelow h))]

/-! ### The command -/

/-- DISP.INC stores the digits of the loop, marks the frame dirty and answers the last carry (R200). -/
theorem exec_dispInc (s : State) (m : Quad Byte) : exec (.dispInc m) s =
    .next { s with disp := { s.disp with dig := (increase s.disp.dig m).1, dirty := true },
                   res := if (increase s.disp.dig m).2 = true then 1 else 0 } := rfl

/-- Settles O18, by induction on the number of increments. -/
theorem displayCountsInItsBase : Obligations.DisplayCountsInItsBase := by
  intro s m n below
  induction n with
  | zero => exact ⟨s, rfl, below, (Nat.mod_eq_of_lt (mixedValue_lt_mixedSize below)).symm⟩
  | succ n ih =>
    obtain ⟨t, run, stillBelow, value⟩ := ih
    have last : execList [.dispInc m] t = _ := (execList_single ..).trans (exec_dispInc t m)
    refine ⟨_, List.replicate_succ' ▸ execList_trans run last, increase_digitsBelow stillBelow, ?_⟩
    rw [mixedValue_increase_eq_mod stillBelow, value, Nat.mod_add_mod, Nat.add_assoc]

/-- Settles O17: each position takes the carry out of the one below it, and position 0 always has one. -/
theorem displayIncrement : Obligations.DisplayIncrement := by
  intro s m d w0 w1 w2 w3
  have digits : increase d m = (⟨(incDigit true d.q0 m.q0).1, (incDigit w0 d.q1 m.q1).1, (incDigit w1 d.q2 m.q2).1,
      (incDigit w2 d.q3 m.q3).1⟩, w3) := by
    simp only [increase, incDigit_snd, Bool.true_and]
    rfl
  exact ⟨_, by rw [exec_dispInc, digits], incDigit_fst_toNat true .., incDigit_fst_toNat w0 ..,
    incDigit_fst_toNat w1 .., incDigit_fst_toNat w2 ..⟩

end Sys2Proof.Machine
end

section
/-! PROOFS. The recompute (R206, R208): its guard, its fault, and what a second one does. -/

namespace Sys2Proof.Machine

open Sys2Proof.Laws

variable {s : State} {d : Quad Byte} {info : Word}

/-! ### The range check (R206) -/

/-- The check names the lowest position whose digit is above 9. -/
theorem checkDigits_of_q0_gt (h0 : 9 < d.q0.toNat) :
    checkDigits d = .error (BitVec.ofNat 64 (d.q0.toNat * 256)) := by
  simp only [checkDigits, digitIndex_of_gt h0, digitFaultInfo_eq d.q0 0 (by omega), Nat.add_zero]

theorem checkDigits_of_q1_gt (h0 : d.q0.toNat ≤ 9) (h1 : 9 < d.q1.toNat) :
    checkDigits d = .error (BitVec.ofNat 64 (d.q1.toNat * 256 + 1)) := by
  simp only [checkDigits, digitIndex_of_le (Nat.lt_succ_of_le h0), digitIndex_of_gt h1,
    digitFaultInfo_eq d.q1 1 (by omega)]

theorem checkDigits_of_q2_gt (h0 : d.q0.toNat ≤ 9) (h1 : d.q1.toNat ≤ 9) (h2 : 9 < d.q2.toNat) :
    checkDigits d = .error (BitVec.ofNat 64 (d.q2.toNat * 256 + 2)) := by
  simp only [checkDigits, digitIndex_of_le (Nat.lt_succ_of_le h0), digitIndex_of_le (Nat.lt_succ_of_le h1),
    digitIndex_of_gt h2, digitFaultInfo_eq d.q2 2 (by omega)]

theorem checkDigits_of_q3_gt (h0 : d.q0.toNat ≤ 9) (h1 : d.q1.toNat ≤ 9) (h2 : d.q2.toNat ≤ 9)
    (h3 : 9 < d.q3.toNat) : checkDigits d = .error (BitVec.ofNat 64 (d.q3.toNat * 256 + 3)) := by
  simp only [checkDigits, digitIndex_of_le (Nat.lt_succ_of_le h0), digitIndex_of_le (Nat.lt_succ_of_le h1),
    digitIndex_of_le (Nat.lt_succ_of_le h2), digitIndex_of_gt h3, digitFaultInfo_eq d.q3 3 (by omega)]

/-! ### The recompute's three ends (R208) -/

theorem recomputeFrame_of_not_due (idle : s.recomputeDue = false) : recomputeFrame s = s := by
  simp [recomputeFrame, idle]

/-- A due recompute whose digits are out of range only records the fault. -/
theorem recomputeFrame_of_frameOf_error (due : s.recomputeDue = true) (bad : s.frameOf = .error info) :
    recomputeFrame s = s.raiseFault .digitRange info := by
  simp [recomputeFrame, due, bad]

/-- What a recompute can do: nothing, the fault alone, or the start of a scan. -/
theorem recomputeFrame_cases (s : State) :
    (s.recomputeDue = false ∧ recomputeFrame s = s) ∨
    (s.recomputeDue = true ∧ ∃ info, s.frameOf = .error info ∧ recomputeFrame s = s.raiseFault .digitRange info) ∨
    (s.recomputeDue = true ∧ ∃ f, recomputeFrame s = s.startScan f) := by
  cases due : s.recomputeDue with
  | false => exact .inl ⟨rfl, recomputeFrame_of_not_due due⟩
  | true =>
    obtain ⟨dirty, complete⟩ := (recomputeDue_eq_true s).mp due
    cases frame : s.frameOf with
    | error info => exact .inr (.inl ⟨rfl, info, rfl, recomputeFrame_of_frameOf_error due frame⟩)
    | ok f => exact .inr (.inr ⟨rfl, f, recomputeFrame_of_frameOf dirty complete frame⟩)

theorem exec_dispRecomp_of_checkDigits (due : s.recomputeDue = true) (bad : checkDigits s.disp.dig = .error info) :
    exec .dispRecomp s = .next { s with flt := s.flt.record 4 info } :=
  congrArg Host.Outcome.next (recomputeFrame_of_frameOf_error due (by simp only [State.frameOf, bad]))

/-- Settles O22: the guard as a proposition, and the lowest position out of range. -/
theorem recomputeGuardAndDigitRange : Obligations.RecomputeGuardAndDigitRange := by
  intro s d
  refine ⟨fun idle => congrArg _ (recomputeFrame_of_not_due ((recomputeDue_eq_false s).mpr idle)),
    fun dirty complete => ?_⟩
  have due : s.recomputeDue = true := (recomputeDue_eq_true s).mpr ⟨dirty, complete⟩
  exact ⟨fun h0 => exec_dispRecomp_of_checkDigits due (checkDigits_of_q0_gt h0),
    fun h0 h1 => exec_dispRecomp_of_checkDigits due (checkDigits_of_q1_gt h0 h1),
    fun h0 h1 h2 => exec_dispRecomp_of_checkDigits due (checkDigits_of_q2_gt h0 h1 h2),
    fun h0 h1 h2 h3 => exec_dispRecomp_of_checkDigits due (checkDigits_of_q3_gt h0 h1 h2 h3)⟩

/-! ### A second recompute (R208) -/

/-- The same fault recorded again changes nothing (R401). -/
theorem record_record (f : FaultRegs) (c : Nat) (info : Word) :
    (f.record c info).record c info = f.record c info := by
  by_cases clear : f.first = 0#8 <;> simp [FaultRegs.record, clear, BitVec.or_assoc]

theorem recomputeFrame_recomputeFrame (s : State) : recomputeFrame (recomputeFrame s) = recomputeFrame s := by
  obtain ⟨-, same⟩ | ⟨due, info, bad, fault⟩ | ⟨-, f, scan⟩ := recomputeFrame_cases s
  · rw [same, same]
  · rw [fault, recomputeFrame_of_frameOf_error (s := s.raiseFault .digitRange info) due bad]
    simp [State.raiseFault, record_record]
  · rw [scan]
    exact recomputeFrame_of_not_due rfl

/-- Settles O23: the recompute is idempotent. -/
theorem recomputeIsIdempotent : Obligations.RecomputeIsIdempotent := by
  intro s
  rw [execList_cons (t := recomputeFrame s) rfl, execList_single]
  exact congrArg Host.Outcome.next (recomputeFrame_recomputeFrame s)

end Sys2Proof.Machine
end

section
/-! PROOFS. No tearing (R211): of all operations the recompute alone writes FRAME, alone or inside PH.50MS and the
scheduler. -/

namespace Sys2Proof.Machine

-- One proof after another: side by side, each keeps a thread waiting for the kernel.
set_option Elab.async false

open Sys2Proof.Laws

variable (s : State)

/-- FRAME stays, or a recompute past its guard starts a scan. -/
def FrameMove (s t : State) : Prop :=
  t.disp.frame = s.disp.frame ∨ (s.recomputeDue = true ∧ t.disp.dirty = false ∧ t.disp.bitIdx = 0)

theorem recomputeFrame_frameMove : FrameMove s (recomputeFrame s) := by
  obtain ⟨-, same⟩ | ⟨-, info, -, fault⟩ | ⟨due, f, scan⟩ := recomputeFrame_cases s
  · exact .inl (by rw [same])
  · exact .inl (by rw [fault]; rfl)
  · exact .inr ⟨due, by simp [scan]⟩

theorem phase50ms_frameMove : FrameMove s (phase50ms s) := by
  unfold phase50ms
  dsimp only
  split
  · split
    · exact .inl (by simp)
    · have scan := recomputeFrame_frameMove ((s.clearCounter 4).sampled .vCutoff)
      simpa [FrameMove, recomputeDue_eq_true] using scan
  · exact .inl rfl

theorem componentStep_frameMove (p : Fin 6) : FrameMove s (componentStep p s) := by
  unfold componentStep
  split
  case h_6 => exact phase50ms_frameMove s
  all_goals exact .inl (by simp)

theorem schedulerStep_frameMove : FrameMove s (schedulerStep s) := by
  unfold schedulerStep
  split
  · exact componentStep_frameMove s s.iterPos
  · exact .inl rfl

theorem effect_frameMove {s t : State} (e : Effect s t) : FrameMove s t := by
  cases e
  case recompute => exact recomputeFrame_frameMove s
  case ms50 => exact phase50ms_frameMove s
  case scheduler => exact schedulerStep_frameMove s
  all_goals exact .inl (by simp)

theorem step_frameMove {s t : State} (h : step s = .next t) : FrameMove s t :=
  step_as_effect (R := FrameMove) (fun _ _ h => h) (fun _ _ => .inl (by simp)) effect_frameMove h

/-- Settles O26: the guard of the recompute holds only between scans. -/
theorem frameIsNotTorn : Obligations.FrameIsNotTorn := by
  intro s t h
  obtain same | ⟨due, clean, start⟩ := step_frameMove h
  · exact ⟨fun _ => same, fun changed => absurd same changed⟩
  · obtain ⟨dirty, complete⟩ := (recomputeDue_eq_true s).mp due
    exact ⟨fun scanning => absurd scanning (Nat.not_le_of_lt complete), fun _ => ⟨dirty, clean, start⟩⟩

end Sys2Proof.Machine
end

section
/-! PROOFS. The display's other commands: its registers (R201 to R205), the scan and the blank display (R207, R209). -/

namespace Sys2Proof.Machine

open Sys2Proof.Laws

variable {s : State}

/-- The greatest number four digits can stand for fits RES (R205). -/
theorem digitsValue_lt (d : Quad Byte) : digitsValue d < 2 ^ 32 := by
  unfold digitsValue
  omega

theorem exec_dispSettings_of_lt {k : Byte} (slot : k.toNat < s.cfg.numSettings) :
    exec (.dispSettings k) s = .next { s with disp := { s.disp with setsel := k } } :=
  congrArg Host.Outcome.next (if_neg (Nat.not_le_of_lt slot))

theorem exec_dispSettings_of_le {k : Byte} (noSlot : s.cfg.numSettings ≤ k.toNat) :
    exec (.dispSettings k) s = .next { s with flt := s.flt.record 3 (encode (.dispSettings k)) } :=
  congrArg Host.Outcome.next (if_pos noSlot)

/-- Settles O19: each command's writes, and the number of the digits, which fits RES. -/
theorem displayRegisterCommands : Obligations.DisplayRegisterCommands := fun s =>
  ⟨rfl, rfl, fun _ => rfl, fun _ => exec_dispSettings_of_lt, fun _ => exec_dispSettings_of_le, _, rfl,
    (BitVec.toNat_ofNat ..).trans (Nat.mod_eq_of_lt (digitsValue_lt s.disp.dig))⟩

/-- Settles O20: the three ranges of BITIDX. -/
theorem displayAdvance : Obligations.DisplayAdvance := by
  intro s b
  refine ⟨fun scanning => ?_, fun last => ?_, fun complete => ?_⟩
  · have shift : advanceScan s = (s.shiftOut b).setBitIdx (s.disp.bitIdx + 1) := if_pos scanning
    simp only [exec, execDispAdv, shift, shiftOut_eq]
    rfl
  · have latch : advanceScan s = (s.pulse .dspRclk).setBitIdx (scanComplete s.cfg) :=
      (if_neg last.not_lt).trans (if_pos last)
    simp only [exec, execDispAdv, latch, latch_eq]
    rfl
  · exact congrArg Host.Outcome.next ((if_neg (by omega)).trans (if_neg (by omega)))

/-- Settles O24: the blanking of the display, which shifts FRAME_BITS zeros in. -/
theorem displayOff : Obligations.DisplayOff := fun s wide => congrArg Host.Outcome.next (turnOff_eq s wide)

end Sys2Proof.Machine
end

section
/-! PROOFS. The arms of the IR link's step (R252 to R260), each said once, and IR.PARAMS (R262). -/

namespace Sys2Proof.Machine

open Sys2Proof.Laws

variable {s : State} {k : Channel}

/-! ### The arms of a channel (R252 to R257) -/

theorem signalStep_of_idle (idle : s.ir.state = .idle k) : signalStep s =
    if s.cfg.tTimeout ≤ s.cnt.ir then (s.sampled (inputLine k)).setIrState .error
    else if s.level (inputLine k) = false then (s.sampled (inputLine k)).setIrState (.waitHigh k)
    else s.sampled (inputLine k) := by
  simp only [signalStep, idle, irIdle, reached_eq_true, sampled_cfg]
  cases s.level (inputLine k) <;> rfl

theorem signalStep_of_waitHigh (wait : s.ir.state = .waitHigh k) : signalStep s =
    if s.cfg.tTimeout ≤ s.cnt.ir then (s.sampled (inputLine k)).setIrState .error
    else if s.level (inputLine k) = true then
      ((s.sampled (inputLine k)).clearCounter 0).setIrState (.assert k)
    else s.sampled (inputLine k) := by
  simp only [signalStep, wait, irWaitHigh, reached_eq_true, sampled_cfg]

theorem signalStep_of_assert (assert : s.ir.state = .assert k) : signalStep s =
    if s.cfg.tAssert ≤ s.cnt.ir then (s.driveOut k true).setIrState (.pulse k) else s := by
  simp only [signalStep, assert, irAssert, reached_eq_true, endAssert_eq]

theorem signalStep_of_pulse (pulse : s.ir.state = .pulse k) : signalStep s =
    if s.cfg.tAssert + s.cfg.tPulse ≤ s.cnt.ir then (s.driveOut k false).setIrState (.guard k) else s := by
  simp only [signalStep, pulse, irPulse, reached_eq_true, endPulse_eq]

theorem signalStep_of_guard (guard : s.ir.state = .guard k) : signalStep s =
    if s.cfg.tAssert + s.cfg.tPulse + s.cfg.tGuard ≤ s.cnt.ir then s.setIrState (.waitNext k) else s := by
  simp only [signalStep, guard, irGuard, reached_eq_true, endGuard_eq]

theorem signalStep_of_waitNext (wait : s.ir.state = .waitNext k) : signalStep s =
    if s.cfg.tTimeout ≤ s.cnt.ir then (s.sampled (inputLine k)).setIrState .error
    else if s.level (inputLine k) = true then s.sampled (inputLine k)
    else if k = .a ∧ s.cfg.numChannels = 2 then
      ((s.sampled (inputLine k)).clearCounter 0).setIrState (.idle .b)
    else (s.sampled (inputLine k)).setIrState .connected := by
  simp only [signalStep, wait, irWaitNext, reached_eq_true, sampled_cfg]
  rfl

theorem signalStep_of_connected (connected : s.ir.state = .connected) : signalStep s = irConnected s := by
  simp only [signalStep, connected]

theorem signalStep_of_error (error : s.ir.state = .error) : signalStep s = irError s := by
  simp only [signalStep, error]

/-! ### The output (R250) -/

/-- A channel drives IR_OUT_A exactly when it is channel A and transmission is enabled. -/
theorem txEnabled_eq (c : Config) (k : Channel) : txEnabled c k = (decide (k = .a) && c.txEnableA) := by
  cases k <;> rfl

theorem driveOut_eq (s : State) (k : Channel) (l : Bool) : s.driveOut k l =
    if (decide (k = .a) && s.cfg.txEnableA) = true then s.pinWrite .irOutA l else s := by
  rw [State.driveOut, txEnabled_eq]

/-! ### The obligations -/

/-- Settles O27: the two arms that wait at the start of a channel. -/
theorem linkIdleAndWaitHigh : Obligations.LinkIdleAndWaitHigh := fun _ _ =>
  ⟨fun idle => congrArg Host.Outcome.next (signalStep_of_idle idle),
    fun wait => congrArg Host.Outcome.next (signalStep_of_waitHigh wait)⟩

/-- Settles O28: the three windows, with what channel A drives at the first two ends. -/
theorem linkWindows : Obligations.LinkWindows := by
  intro s k tx
  refine ⟨fun assert => congrArg Host.Outcome.next ?_, fun pulse => congrArg Host.Outcome.next ?_,
    fun guard => congrArg Host.Outcome.next (signalStep_of_guard guard)⟩
  · rw [signalStep_of_assert assert, driveOut_eq, apply_ite (State.setIrState · _)]
    rfl
  · rw [signalStep_of_pulse pulse, driveOut_eq, apply_ite (State.setIrState · _)]
    rfl

/-- Settles O29: the last arm of a channel. -/
theorem linkWaitNext : Obligations.LinkWaitNext := fun _ _ wait =>
  congrArg Host.Outcome.next (signalStep_of_waitNext wait)

/-- Settles O30: the arm CONNECTED, and IR.PARAMS as it is defined. -/
theorem linkConnectedAndParameters : Obligations.LinkConnectedAndParameters := fun _ =>
  ⟨fun connected => congrArg Host.Outcome.next (signalStep_of_connected connected), fun _ _ => rfl⟩

/-! ### The peer-lost check (R259, R260) -/

/-- PKT's fields as a number (R62). -/
theorem packetByte_eq_ofNat (btn sig : Bool) (seq : BitVec 2) :
    packetByte btn sig seq = BitVec.ofNat 8 (btn.toNat * 128 + sig.toNat * 64 + seq.toNat) := by
  revert btn sig seq
  decide

/-- The check with its request written out: the loss is latched, and R302 alone decides whether a packet follows. -/
theorem peerLostCheck_eq (s : State) : peerLostCheck s =
    let lost := { s with ir := { s.ir with lostLatch := true, peerConnected := false, cooldown := s.ir.irDelay } }
    if s.ir.brokenThresh.toNat ≤ s.ir.broken.toNat ∧ s.ir.lostLatch = false ∧ s.ir.cooldown = 0 then
      if s.cfg.rfEnable = true ∧ s.cfg.sendOnPeerLost = true ∧ s.rf.configured = true ∧ s.sys = .run ∧
          s.rf.state = .idle then (lost.emit .peerLost).startSend false true
      else lost.emit .peerLost
    else s := by
  unfold peerLostCheck sendPacket
  simp only [peerLostDue_eq_true, sendAccepted_eq_true, Bool.and_eq_true, emit_cfg, emit_rf, emit_sys]
  split
  · by_cases request : s.cfg.rfEnable = true ∧ s.cfg.sendOnPeerLost = true <;> simp [← and_assoc, request]
  · rfl

/-- Settles O31: whether the peer is lost, and whether the request that follows is accepted. -/
theorem linkError : Obligations.LinkError := by
  intro s error
  refine ⟨satInc s.ir.broken s.cfg.brokenCeil, satInc_toNat .., congrArg Host.Outcome.next ?_⟩
  rw [signalStep_of_error error, irError, peerLostCheck_eq]
  simp only [State.startSend, packetByte_eq_ofNat]
  split
  · split <;> rfl
  · rfl

end Sys2Proof.Machine
end

section
/-! PROOFS. The IR link's invariants (R263, R264, R365): what each operation does to the link's state and its output. -/

namespace Sys2Proof.Machine

open Sys2Proof.Laws

variable {s t : State}

/-! ### Moves within the invariants -/

theorem State.live.not_shutDown (live : s.live) : ¬ s.shutDown := by
  obtain hs | hs := live <;> simp [State.shutDown, hs]

/-- The invariants read the parameters, SYS_STATE and four registers of the link. -/
theorem State.LinkOk.unchanged (h : s.LinkOk)
    (e : t.cfg = s.cfg ∧ t.sys = s.sys ∧ t.ir.state = s.ir.state ∧ t.ir.outA = s.ir.outA ∧
      t.ir.lostLatch = s.ir.lostLatch ∧ t.ir.peerConnected = s.ir.peerConnected := by simp) : t.LinkOk := by
  obtain ⟨hcfg, hsys, hstate, houtA, hlatch, hpeer⟩ := e
  obtain ⟨pulse, off, lost, oneChannel⟩ := h
  constructor <;> simp only [State.live, State.shutDown, hcfg, hsys, hstate, houtA, hlatch, hpeer] <;> assumption

/-- A shut-down machine with its output low keeps the rest of the link. -/
theorem State.LinkOk.toShutDown (h : s.LinkOk) (down : t.shutDown) (off : t.ir.outA = false)
    (e : t.cfg = s.cfg ∧ t.ir.state = s.ir.state ∧ t.ir.lostLatch = s.ir.lostLatch ∧
      t.ir.peerConnected = s.ir.peerConnected := by simp) : t.LinkOk := by
  obtain ⟨hcfg, hstate, hlatch, hpeer⟩ := e
  exact ⟨fun live => absurd down live.not_shutDown, fun _ => off, hlatch ▸ hpeer ▸ h.lost,
    hcfg ▸ hstate ▸ h.oneChannel⟩

/-- A working machine goes on working in another SYS_STATE. -/
theorem State.LinkOk.toLive (h : s.LinkOk) (before : s.live) (after : t.live)
    (e : t.cfg = s.cfg ∧ t.ir = s.ir := by simp) : t.LinkOk := by
  obtain ⟨hcfg, hir⟩ := e
  exact ⟨fun _ => hcfg ▸ hir ▸ h.pulse before, fun down => absurd down after.not_shutDown, hir ▸ h.lost,
    hcfg ▸ hir ▸ h.oneChannel⟩

/-! ### Shutdown (R365) -/

theorem shutdownSeq_linkOk (h : s.LinkOk) : (shutdownSeq s).LinkOk := by
  obtain ⟨-, hs⟩ | ⟨-, hs⟩ := shutdownSeq_cases s <;> rw [hs]
  · exact h.toShutDown (shutdownBody_shutDown s) (by simp [shutdownBody])
  · exact h

theorem exhausted_linkOk (h : s.LinkOk) : (exhausted s).LinkOk := by
  unfold exhausted
  dsimp only
  split
  · exact shutdownSeq_linkOk h.unchanged
  · exact h.unchanged

theorem windowElapsed_linkOk (h : s.LinkOk) : (windowElapsed s).LinkOk := by
  unfold windowElapsed
  dsimp only
  split
  · exact exhausted_linkOk h.unchanged
  · exact h.unchanged

theorem rfWaitAck_linkOk (h : s.LinkOk) : (rfWaitAck s).LinkOk := by
  unfold rfWaitAck
  dsimp only
  split
  · exact h.unchanged ⟨rfl, rfl, rfl, rfl, rfl, rfl⟩
  · split
    · exact windowElapsed_linkOk h.unchanged
    · exact h.unchanged

theorem radioStep_linkOk (h : s.LinkOk) : (radioStep s).LinkOk := by
  unfold radioStep
  split
  · exact h
  · split
    · exact exhausted_linkOk h
    · split
      case h_5 => exact rfWaitAck_linkOk h
      all_goals exact h.unchanged

theorem buttonHeld_linkOk (h : s.LinkOk) : (buttonHeld s).LinkOk := by
  unfold buttonHeld
  dsimp only
  split <;> split
  case isTrue.isTrue | isFalse.isTrue => exact shutdownSeq_linkOk h.unchanged
  all_goals exact h.unchanged

theorem phase10ms_linkOk (h : s.LinkOk) : (phase10ms s).LinkOk := by
  unfold phase10ms
  dsimp only
  split
  · split
    · exact buttonHeld_linkOk h.unchanged
    · exact h.unchanged
  · exact h

theorem cooldownPhase_linkOk (h : s.LinkOk) : (cooldownPhase s).LinkOk := by
  unfold cooldownPhase
  split <;> exact h.unchanged

theorem phase50ms_linkOk (h : s.LinkOk) : (phase50ms s).LinkOk := by
  unfold phase50ms
  dsimp only
  split
  · split
    · exact shutdownSeq_linkOk h.unchanged
    · have recomputed : (recomputeFrame ((s.clearCounter 4).sampled .vCutoff)).LinkOk := h.unchanged
      exact (cooldownPhase_linkOk recomputed).unchanged
  · exact h

/-! ### The link's own step (R252 to R260) -/

/-- The states of channel B, which one channel never enters (R264). -/
def channelB : List IrState := [.idle .b, .waitHigh .b, .assert .b, .pulse .b, .guard .b, .waitNext .b]

/-- What a step of the link does to its state and its output: both stay, the state moves outside A_PULSE, or a pulse
begins or ends, which is when channel A drives the output (R254, R255). -/
inductive LineMove (s t : State) : Prop where
  | stays (state : t.ir.state = s.ir.state) (outA : t.ir.outA = s.ir.outA)
  | moves (before : s.ir.state ≠ .pulse .a) (after : t.ir.state ≠ .pulse .a) (outA : t.ir.outA = s.ir.outA)
      (channel : t.ir.state ∈ channelB → s.ir.state ∈ channelB ∨ s.cfg.numChannels = 2)
  | rises (k : Channel) (before : s.ir.state = .assert k) (after : t.ir.state = .pulse k)
      (outA : t.ir.outA = if txEnabled s.cfg k then true else s.ir.outA)
  | falls (k : Channel) (before : s.ir.state = .pulse k) (after : t.ir.state = .guard k)
      (outA : t.ir.outA = if txEnabled s.cfg k then false else s.ir.outA)

theorem driveOut_outA (s : State) (k : Channel) (l : Bool) :
    (s.driveOut k l).ir.outA = if txEnabled s.cfg k then l else s.ir.outA := by
  unfold State.driveOut
  split <;> simp

@[simp] theorem peerLostCheck_outA (s : State) : (peerLostCheck s).ir.outA = s.ir.outA := by
  unfold peerLostCheck
  dsimp only
  (repeat' split) <;> simp

theorem signalStep_lineMove (s : State) : LineMove s (signalStep s) := by
  cases hs : s.ir.state with
  | idle k =>
    rw [signalStep_of_idle hs]
    (repeat' split)
    · exact .moves (by simp [hs]) (by simp) rfl (by simp [channelB])
    · exact .moves (by simp [hs]) (by simp) rfl (by cases k <;> simp [channelB, hs])
    · exact .stays rfl rfl
  | waitHigh k =>
    rw [signalStep_of_waitHigh hs]
    (repeat' split)
    · exact .moves (by simp [hs]) (by simp) rfl (by simp [channelB])
    · exact .moves (by simp [hs]) (by simp) rfl (by cases k <;> simp [channelB, hs])
    · exact .stays rfl rfl
  | assert k =>
    rw [signalStep_of_assert hs]
    split
    · exact .rises k hs rfl (driveOut_outA ..)
    · exact .stays rfl rfl
  | pulse k =>
    rw [signalStep_of_pulse hs]
    split
    · exact .falls k hs rfl (driveOut_outA ..)
    · exact .stays rfl rfl
  | guard k =>
    rw [signalStep_of_guard hs]
    split
    · exact .moves (by simp [hs]) (by simp) rfl (by cases k <;> simp [channelB, hs])
    · exact .stays rfl rfl
  | waitNext k =>
    rw [signalStep_of_waitNext hs]
    (repeat' split)
    · exact .moves (by simp [hs]) (by simp) rfl (by simp [channelB])
    · exact .stays rfl rfl
    · next two => exact .moves (by simp [hs]) (by simp) rfl fun _ => .inr two.2
    · exact .moves (by simp [hs]) (by simp) rfl (by simp [channelB])
  | connected =>
    rw [signalStep_of_connected hs]
    exact .moves (by simp [hs]) (by simp [irConnected]) rfl (by simp [channelB, irConnected])
  | error =>
    rw [signalStep_of_error hs]
    exact .moves (by simp [hs]) (by simp [irError]) (by simp [irError]) (by simp [channelB, irError])

/-- Outside A_PULSE a working machine drives IR_OUT_A low (R263 (a)). -/
theorem State.LinkOk.low (h : s.LinkOk) (live : s.live) (notPulse : s.ir.state ≠ .pulse .a) : s.ir.outA = false := by
  simpa [notPulse] using h.pulse live

/-- A move of a working machine ends with the output high exactly in A_PULSE (R263 (a)). -/
theorem LineMove.pulse_iff (m : LineMove s t) (h : s.LinkOk) (live : s.live) :
    t.ir.outA = true ↔ t.ir.state = .pulse .a ∧ s.cfg.txEnableA = true := by
  cases m with
  | stays state outA => rw [state, outA, h.pulse live]
  | moves before after outA => simp [outA, h.low live before, after]
  | rises k before after outA =>
    have low := h.low live (by simp [before])
    cases k <;> simp [outA, after, low, txEnabled]
  | falls k before after outA =>
    have high := h.pulse live
    cases k <;> simp_all [txEnabled]

/-- A move on one channel stays off channel B (R264). -/
theorem LineMove.oneChannel (m : LineMove s t) (h : s.LinkOk) (one : s.cfg.numChannels = 1) :
    t.ir.state ∉ channelB := by
  have off : s.ir.state ∉ channelB := h.oneChannel one
  cases m with
  | stays state => rwa [state]
  | moves _ _ _ channel => exact fun on => (channel on).elim off (by simp [one])
  | rises k before after => cases k <;> simp_all [channelB]
  | falls k before after => cases k <;> simp_all [channelB]

/-- The latch of a lost peer is set only together with PEER_CONNECTED cleared (R263 (e), R260). -/
theorem StatusMove.lost (m : StatusMove s t) (lost : s.ir.lostLatch = true → s.ir.peerConnected = false)
    (latch : t.ir.lostLatch = true) : t.ir.peerConnected = false := by
  obtain ⟨-, latch', peer⟩ | ⟨-, -, -, ⟨latch', peer, -⟩ | ⟨-, -, peer, -⟩⟩ | ⟨-, -, -, clear, -⟩ := m
  · exact peer ▸ lost (latch' ▸ latch)
  · exact peer ▸ lost (latch' ▸ latch)
  · exact peer
  · simp [clear] at latch

theorem signalStep_linkOk (h : s.LinkOk) (live : s.live) : (signalStep s).LinkOk := by
  have line := signalStep_lineMove s
  have live' : (signalStep s).live := by simpa [State.live] using live
  exact ⟨fun _ => by simpa using line.pulse_iff h live, fun down => absurd down live'.not_shutDown,
    (signalStep_statusMove s).lost h.lost, fun one => line.oneChannel h (by simpa using one)⟩

/-! ### Commands and steps -/

theorem componentStep_linkOk (h : s.LinkOk) (live : s.live) (p : Fin 6) : (componentStep p s).LinkOk := by
  unfold componentStep
  split
  · exact radioStep_linkOk h
  · exact signalStep_linkOk h live
  · exact h.unchanged
  · exact h.unchanged
  · exact phase10ms_linkOk h
  · exact phase50ms_linkOk h

theorem schedulerStep_linkOk (h : s.LinkOk) : (schedulerStep s).LinkOk := by
  unfold schedulerStep
  split
  · next run => exact (componentStep_linkOk h (.inr run) s.iterPos).unchanged
  · exact h

theorem bootStep_linkOk (h : s.LinkOk) : (bootStep s).LinkOk := by
  unfold bootStep
  dsimp only
  split
  · next boot =>
    refine h.toLive (.inl boot) (.inr rfl) ?_
    split <;> simp
  · exact h.unchanged

/-- The release wait leaves the link of a shut-down machine (R360). -/
theorem releaseWait_linkOk (h : s.LinkOk) (wait : s.sys = .sdWait) : (releaseWait s).LinkOk := by
  have off := h.off (.inl wait)
  unfold releaseWait
  split
  · exact h.unchanged
  · exact h.toShutDown (.inr rfl) off

/-- Commands run only in a working machine, so the link's own step is one of it (R130, R349). -/
theorem effect_linkOk (h : s.LinkOk) (live : s.live) (e : Effect s t) : t.LinkOk := by
  cases e
  case signal => exact signalStep_linkOk h live
  case radio => exact radioStep_linkOk h
  case scheduler => exact schedulerStep_linkOk h
  case ms10 => exact phase10ms_linkOk h
  case ms50 => exact phase50ms_linkOk h
  case shutdown => exact shutdownSeq_linkOk h
  case boot => exact bootStep_linkOk h
  all_goals exact h.unchanged

/-- Settles O35: every agent's step keeps the link's invariants, and so does every command of a working machine. -/
theorem stepKeepsTheLink : Obligations.StepKeepsTheLink := by
  intro s t h hstep
  refine step_kept (R := fun s t => s.LinkOk → t.LinkOk) (fun s h => ?turn) (fun s h => ?tick) (fun s _ h => ?boot)
    (fun s _ h => ?sched) (fun s wait h => ?wait) (fun s c w _ h => ?fault) (fun s i t live hi h => ?command) hstep h
  case turn | tick | fault => exact h.unchanged
  case boot => exact bootStep_linkOk h.unchanged
  case sched => exact schedulerStep_linkOk h.unchanged
  case wait => exact releaseWait_linkOk h.unchanged wait
  case command =>
    have accepted : s.turnTaken.accepted.LinkOk := h.unchanged
    exact effect_linkOk accepted live (exec_effect hi)

end Sys2Proof.Machine
end

section
/-! PROOFS. A full detection cycle (R251 to R258, R264): the point of the cycle that each of its commands reaches. -/

namespace Sys2Proof.Machine

open Sys2Proof.Laws

/-! ### A point of the cycle -/

/-- A point of a detection cycle: IRSTATE, CNT_IR, the levels driven on IR_OUT_A since the cycle's start, and the levels
that wait for the next samples. -/
structure CyclePoint where
  state  : IrState
  cnt    : Nat
  driven : List Bool
  levels : List (Line × Bool)

/-- `t` follows on `s` and is at the point `p`: of the link only the state and the output have moved, and the output has
the level driven last. -/
structure AtPoint (s : State) (p : CyclePoint) (t : State) : Prop where
  ir     : t.ir = { s.ir with state := p.state, outA := p.driven.getLast?.getD s.ir.outA }
  out    : t.out = { s.out with pins := s.out.pins ++ p.driven.map (Pin.irOutA, ·) }
  cnt    : t.cnt.ir = p.cnt
  levels : t.env.levels = p.levels
  cfg    : t.cfg = s.cfg
  tick   : t.tickEn = s.tickEn
  others : t.rf = s.rf ∧ t.disp = s.disp ∧ t.sys = s.sys ∧ t.flt = s.flt

variable {s t : State} {x : IrState} {k : Channel} {c : Nat} {d : List Bool} {r : List (Line × Bool)}

theorem AtPoint.start (s : State) : AtPoint s ⟨s.ir.state, s.cnt.ir, [], s.env.levels⟩ s where
  ir := rfl
  out := by simp
  cnt := rfl
  levels := rfl
  cfg := rfl
  tick := rfl
  others := ⟨rfl, rfl, rfl, rfl⟩

/-! ### The operations of the link's step -/

theorem AtPoint.setIrState (h : AtPoint s ⟨x, c, d, r⟩ t) (y : IrState) :
    AtPoint s ⟨y, c, d, r⟩ (t.setIrState y) :=
  { h with ir := by rw [setIrState_ir, h.ir] }

theorem AtPoint.sampled {l : Line} {v : Bool} (h : AtPoint s ⟨x, c, d, (l, v) :: r⟩ t) :
    AtPoint s ⟨x, c, d, r⟩ (t.sampled l) :=
  { h with levels := sampled_levels_of_cons h.levels }

theorem AtPoint.clearCounter (h : AtPoint s ⟨x, c, d, r⟩ t) : AtPoint s ⟨x, 0, d, r⟩ (t.clearCounter 0) :=
  { h with cnt := rfl }

theorem AtPoint.driveOut (h : AtPoint s ⟨x, c, d, r⟩ t) (k : Channel) (l : Bool) :
    AtPoint s ⟨x, c, d ++ if txEnabled s.cfg k then [l] else [], r⟩ (t.driveOut k l) := by
  rw [State.driveOut, h.cfg]
  split
  · exact { h with
      ir := by simp [h.ir]
      out := by simp [h.out]
      others := by simpa using h.others }
  · simpa using h

theorem AtPoint.ticked (h : AtPoint s ⟨x, c, d, r⟩ t) {n : Nat} (fits : c + n < 2 ^ s.cfg.cntWidth) :
    AtPoint s ⟨x, c + n, d, r⟩ (ticked t n) := by
  have counted : (Laws.ticked t n).cnt.ir = c + n := by
    rw [ticked_ir, h.cnt]
    rwa [h.cfg, h.cnt]
  rw [ticked_eq]
  exact { h with cnt := counted }

/-! ### The transitions of a channel (R252 to R257) -/

theorem AtPoint.state_eq {p : CyclePoint} (h : AtPoint s p t) : t.ir.state = p.state := by
  rw [h.ir]

theorem AtPoint.before_timeout {p : CyclePoint} (h : AtPoint s p t) (early : p.cnt < s.cfg.tTimeout) :
    ¬ t.cfg.tTimeout ≤ t.cnt.ir := by
  rw [h.cfg, h.cnt]
  exact Nat.not_le_of_lt early

theorem AtPoint.lineLow (h : AtPoint s ⟨.idle k, c, d, (inputLine k, false) :: r⟩ t) (early : c < s.cfg.tTimeout) :
    AtPoint s ⟨.waitHigh k, c, d, r⟩ (signalStep t) := by
  rw [signalStep_of_idle h.state_eq, if_neg (h.before_timeout early), if_pos (level_of_cons h.levels)]
  exact h.sampled.setIrState _

theorem AtPoint.lineHigh (h : AtPoint s ⟨.waitHigh k, c, d, (inputLine k, true) :: r⟩ t)
    (early : c < s.cfg.tTimeout) : AtPoint s ⟨.assert k, 0, d, r⟩ (signalStep t) := by
  rw [signalStep_of_waitHigh h.state_eq, if_neg (h.before_timeout early), if_pos (level_of_cons h.levels)]
  exact h.sampled.clearCounter.setIrState _

theorem AtPoint.assertEnds (h : AtPoint s ⟨.assert k, c, d, r⟩ t) (ends : s.cfg.tAssert ≤ c) :
    AtPoint s ⟨.pulse k, c, d ++ if txEnabled s.cfg k then [true] else [], r⟩ (signalStep t) := by
  have ended : t.cfg.tAssert ≤ t.cnt.ir := by rwa [h.cfg, h.cnt]
  rw [signalStep_of_assert h.state_eq, if_pos ended]
  exact (h.driveOut k true).setIrState _

theorem AtPoint.pulseEnds (h : AtPoint s ⟨.pulse k, c, d, r⟩ t) (ends : s.cfg.tAssert + s.cfg.tPulse ≤ c) :
    AtPoint s ⟨.guard k, c, d ++ if txEnabled s.cfg k then [false] else [], r⟩ (signalStep t) := by
  have ended : t.cfg.tAssert + t.cfg.tPulse ≤ t.cnt.ir := by rwa [h.cfg, h.cnt]
  rw [signalStep_of_pulse h.state_eq, if_pos ended]
  exact (h.driveOut k false).setIrState _

theorem AtPoint.guardEnds (h : AtPoint s ⟨.guard k, c, d, r⟩ t)
    (ends : s.cfg.tAssert + s.cfg.tPulse + s.cfg.tGuard ≤ c) :
    AtPoint s ⟨.waitNext k, c, d, r⟩ (signalStep t) := by
  rw [signalStep_of_guard h.state_eq, if_pos (by rwa [h.cfg, h.cnt])]
  exact h.setIrState _

/-- The peer's next pulse on channel A leads to channel B when there are two channels (R257). -/
theorem AtPoint.nextChannel (h : AtPoint s ⟨.waitNext .a, c, d, (.irInA, false) :: r⟩ t)
    (early : c < s.cfg.tTimeout) (two : s.cfg.numChannels = 2) : AtPoint s ⟨.idle .b, 0, d, r⟩ (signalStep t) := by
  rw [signalStep_of_waitNext h.state_eq, if_neg (h.before_timeout early), inputLine, level_of_cons h.levels,
    if_neg Bool.false_ne_true, if_pos ⟨rfl, by rwa [h.cfg]⟩]
  exact h.sampled.clearCounter.setIrState _

/-- On the last channel it completes the detection (R257). -/
theorem AtPoint.detected (h : AtPoint s ⟨.waitNext k, c, d, (inputLine k, false) :: r⟩ t)
    (early : c < s.cfg.tTimeout) (last : ¬ (k = .a ∧ s.cfg.numChannels = 2)) :
    AtPoint s ⟨.connected, c, d, r⟩ (signalStep t) := by
  rw [signalStep_of_waitNext h.state_eq, if_neg (h.before_timeout early), level_of_cons h.levels,
    if_neg Bool.false_ne_true, h.cfg, if_neg last]
  exact h.sampled.setIrState _

/-! ### Commands one after another -/

/-- The commands lead from `s` to the point `p`. -/
def Reaches (s : State) (run : List Instr) (p : CyclePoint) : Prop := ∃ t, execList run s = .next t ∧ AtPoint s p t

variable {run : List Instr} {p q : CyclePoint}

theorem Reaches.irStep (h : Reaches s run p) (transition : ∀ {t}, AtPoint s p t → AtPoint s q (signalStep t)) :
    Reaches s (run ++ [.irStep]) q := by
  obtain ⟨t, reached, point⟩ := h
  exact ⟨signalStep t, execList_trans reached (execList_single ..), transition point⟩

theorem Reaches.ticks (h : Reaches s run ⟨x, c, d, r⟩) (tick : s.tickEn = true) (n : Nat)
    (fits : c + n < 2 ^ s.cfg.cntWidth) : Reaches s (run ++ List.replicate n .tick) ⟨x, c + n, d, r⟩ := by
  obtain ⟨t, reached, point⟩ := h
  exact ⟨ticked t n, execList_trans reached (execList_ticks t (point.tick.trans tick) n), point.ticked fits⟩

/-! ### One channel -/

/-- The commands of one channel in `LinkFullCycle`. -/
def channelRun (c : Config) : List Instr :=
  [Instr.irStep, .irStep] ++ List.replicate c.tAssert Instr.tick ++ [.irStep] ++ List.replicate c.tPulse Instr.tick
    ++ [.irStep] ++ List.replicate c.tGuard Instr.tick ++ [.irStep, .irStep]

/-- What a channel drives in its windows (R254, R255). -/
def drivenBy (c : Config) (k : Channel) : List Bool := if txEnabled c k then [true, false] else []

/-- The tick is enabled, the windows end before the timeout (R8), and the counter holds the timeout. -/
structure TimelyWindows (s : State) : Prop where
  tick    : s.tickEn = true
  windows : s.cfg.tAssert + s.cfg.tPulse + s.cfg.tGuard < s.cfg.tTimeout
  fits    : s.cfg.tTimeout < 2 ^ s.cfg.cntWidth

/-- A low and a high on a channel's line lead through its three windows, and then one more step of the link is made. -/
theorem Reaches.channel (h : Reaches s run ⟨.idle k, c, d, (inputLine k, false) :: (inputLine k, true) :: r⟩)
    (timely : TimelyWindows s) (early : c < s.cfg.tTimeout)
    (next : ∀ {t}, AtPoint s ⟨.waitNext k, s.cfg.tAssert + s.cfg.tPulse + s.cfg.tGuard, d ++ drivenBy s.cfg k, r⟩ t →
      AtPoint s q (signalStep t)) : Reaches s (run ++ channelRun s.cfg) q := by
  obtain ⟨tick, windows, fits⟩ := timely
  have driven : d ++ drivenBy s.cfg k =
      d ++ (if txEnabled s.cfg k then [true] else []) ++ if txEnabled s.cfg k then [false] else [] := by
    unfold drivenBy
    split <;> simp
  have asserting := (h.irStep (·.lineLow early)).irStep (·.lineHigh early)
  have pulsing := (asserting.ticks tick s.cfg.tAssert (by omega)).irStep (·.assertEnds (by omega))
  have guarding := (pulsing.ticks tick s.cfg.tPulse (by omega)).irStep (·.pulseEnds (by omega))
  have waiting := (guarding.ticks tick s.cfg.tGuard (by omega)).irStep (·.guardEnds (by omega))
  rw [Nat.zero_add, ← driven] at waiting
  simpa [channelRun] using waiting.irStep next

/-! ### The whole cycle -/

/-- What `LinkFullCycle` says of the state after the cycle. -/
def CycleEnds (s : State) (rest : List (Line × Bool)) (t : State) : Prop :=
  t.ir = { s.ir with state := .idle .a, broken := 0, lostLatch := false, peerConnected := true,
                     outA := if s.cfg.txEnableA = true then false else s.ir.outA } ∧
  t.out = { s.out with pins := s.out.pins ++ (if s.cfg.txEnableA = true then [(.irOutA, true), (.irOutA, false)]
                                              else []),
                       events := s.out.events ++ [.connected] } ∧
  t.cnt.ir = 0 ∧ t.env.levels = rest ∧ t.rf = s.rf ∧ t.disp = s.disp ∧ t.sys = s.sys ∧ t.flt = s.flt

/-- The step of CONNECTED ends the cycle, in which only channel A has driven the output (R258). -/
theorem Reaches.cycleEnds (h : Reaches s run ⟨.connected, c, d, r⟩) (onlyA : d = drivenBy s.cfg .a) :
    ∃ t, execList (run ++ [.irStep]) s = .next t ∧ CycleEnds s r t := by
  obtain ⟨t, reached, point⟩ := h
  refine ⟨irConnected t, ?_, ?_, ?_, rfl, point.levels, point.others⟩
  · rw [← signalStep_of_connected point.state_eq]
    exact execList_trans reached (execList_single ..)
  · cases tx : s.cfg.txEnableA <;> simp [irConnected, point.ir, onlyA, drivenBy, txEnabled, tx]
  · cases tx : s.cfg.txEnableA <;> simp [irConnected, point.out, onlyA, drivenBy, txEnabled, tx]

/-- Settles O32: the windows of one channel or of two, and the step of CONNECTED. -/
theorem linkFullCycle : Obligations.LinkFullCycle := by
  intro s rest _ _ _ _ _ idle early tick windows fits
  have timely : TimelyWindows s := ⟨tick, of_decide_eq_true windows, fits⟩
  have started : Reaches s [] ⟨.idle .a, s.cnt.ir, [], s.env.levels⟩ := ⟨s, rfl, idle ▸ .start s⟩
  refine ⟨fun one levels => ?_, fun two levels => ?_⟩ <;> rw [levels] at started
  · have detected := started.channel timely early (·.detected timely.windows (by simp [one]))
    exact detected.cycleEnds rfl
  · have onB := started.channel timely early (·.nextChannel timely.windows two)
    have detected := onB.channel timely (by omega) (·.detected timely.windows (by simp))
    exact detected.cycleEnds (by simp [drivenBy, txEnabled])

end Sys2Proof.Machine
end

section
/-! PROOFS. The radio's transfers and the arms of its step (R300 to R308), each said once, and the commands that are one
of them. -/

namespace Sys2Proof.Machine

open Sys2Proof.Laws

variable {s : State}

/-! ### Transfers (R12, R102) -/

/-- A run of transfers uses up one answer, or one draw, a byte. -/
theorem busXfers_env (s : State) (bs : List Byte) : (s.busXfers bs).env =
    { s.env with answers := s.env.answers.drop bs.length, draws := s.env.draws + bs.length } := by
  induction bs generalizing s with
  | nil => rfl
  | cons b bs ih => simp [State.busXfers, ih, Nat.add_assoc, Nat.add_comm 1]

/-- A run of transfers appends one entry a byte to the bus trace. -/
theorem busXfers_bus (s : State) (bs : List Byte) :
    ∃ bus, bus.map Prod.fst = bs ∧ (s.busXfers bs).out.bus = s.out.bus ++ bus := by
  obtain ⟨bus, appended⟩ := (extends_busXfers s bs).bus
  refine ⟨bus, ?_, appended.symm⟩
  have sent := busXfers_sent s bs
  rw [← appended, List.map_append] at sent
  exact List.append_cancel_left sent

/-! ### Configuration (R300, R301, R105) -/

/-- A byte of the frequency word is cut from it by floor division. -/
theorem freqWord_byte (c : Config) (k : Nat) : (freqWord c).extractLsb' k 8 =
    BitVec.ofNat 8 (c.targetFreq * 2 ^ 16 / (c.xtalFreq : Nat) % 2 ^ 24 / 2 ^ k) := by
  rw [BitVec.extractLsb', freqWord, BitVec.toNat_ofNat, Nat.shiftRight_eq_div_pow]

theorem exec_rfConfig (enabled : s.cfg.rfEnable = true) (fresh : s.rf.configured = false) :
    exec .rfConfig s = .next (configureRadio s) := by
  have allowed : s.configBarred = false := by simp [State.configBarred, enabled, fresh]
  simp [exec, execRfConfig, allowed]

/-- Settles O36: the configuration bytes, with the frequency word's written out, and the two barred cases. -/
theorem radioConfiguration : Obligations.RadioConfiguration := by
  intro s F bytes
  have order : configBytes s.cfg = bytes := by
    simp only [configBytes, freqByte0, freqByte1, freqByte2, freqWord_byte, Nat.pow_zero, Nat.div_one, bytes, F,
      List.append_assoc]
  refine ⟨fun enabled fresh => ?_, fun barred => ?_⟩
  · obtain ⟨bus, sent, appended⟩ := busXfers_bus s bytes
    refine ⟨bus, sent, ?_⟩
    rw [exec_rfConfig enabled fresh, configureRadio, order, busXfers_eq, appended, busXfers_env]
  · exact congrArg Host.Outcome.next (if_pos ((configBarred_eq_true s).mpr barred))

/-! ### Requests (R302) -/

/-- Settles O37: the request is accepted under R302's conditions alone. -/
theorem radioSend : Obligations.RadioSend := by
  intro s btn sig
  simp only [exec, execRfSend, sendPacket, bitResult, sendAccepted_eq_true, ← packetByte_eq_ofNat]
  split <;> rfl

/-! ### The arms of the send (R303 to R306) -/

theorem radioStep_of_inactive (inactive : s.cfg.rfEnable = false ∨ s.rf.state = .idle) : radioStep s = s :=
  if_pos inactive

/-- The overall timeout comes before the state's own action (R303). -/
theorem radioStep_of_timedOut (enabled : s.cfg.rfEnable = true) (busy : s.rf.state ≠ .idle)
    (timedOut : s.sendTimedOut = true) : radioStep s = exhausted s := by
  simp [radioStep, enabled, busy, timedOut]

section
variable (enabled : s.cfg.rfEnable = true)
  (inTime : s.cfg.rfTimeout50ms = 0 ∨ s.rf.timeout.toNat < s.cfg.rfTimeout50ms.toNat)
include enabled inTime

theorem radioStep_of_txStart (start : s.rf.state = .txStart) : radioStep s = rfTxStart s := by
  simp [radioStep, enabled, (sendTimedOut_eq_false s).mpr inTime, start]

theorem radioStep_of_waitCarrierAssert (wait : s.rf.state = .waitCarrierAssert) : radioStep s =
    if s.level .rfCarrier = true then (s.sampled .rfCarrier).setRfState .waitCarrierDeassert
    else s.sampled .rfCarrier := by
  simp [radioStep, enabled, (sendTimedOut_eq_false s).mpr inTime, wait, rfWaitCarrierAssert]

theorem radioStep_of_waitCarrierDeassert (wait : s.rf.state = .waitCarrierDeassert) : radioStep s =
    if s.level .rfCarrier = true then s.sampled .rfCarrier
    else ((s.sampled .rfCarrier).clearCounter 5).setRfState .waitAck := by
  simp [radioStep, enabled, (sendTimedOut_eq_false s).mpr inTime, wait, rfWaitCarrierDeassert]

/-- The acknowledgment comes before the window's end (R306). -/
theorem radioStep_of_waitAck (wait : s.rf.state = .waitAck) : radioStep s =
    if s.level .rfAck = true then readAck (s.sampled .rfAck)
    else if s.cfg.rfAckWindow ≤ s.cnt.rfWin then windowElapsed (s.sampled .rfAck)
    else s.sampled .rfAck := by
  simp [radioStep, enabled, (sendTimedOut_eq_false s).mpr inTime, wait, rfWaitAck]

end

/-- The packet's three transfers belong to one step (R304). -/
theorem rfTxStart_eq (s : State) : ∃ a b c : Byte, rfTxStart s =
    { s with rf := { s.rf with state := .waitCarrierAssert },
             out := { s.out with
                        bus := s.out.bus ++ [(s.cfg.rfCmdTxfifo, a), (s.rf.pkt, b), (s.cfg.rfCmdStx, c)] },
             env := { s.env with answers := s.env.answers.drop 3, draws := s.env.draws + 3 } } := by
  refine ⟨s.answer, (s.busXfer s.cfg.rfCmdTxfifo).answer, ((s.busXfer s.cfg.rfCmdTxfifo).busXfer s.rf.pkt).answer, ?_⟩
  rw [rfTxStart, busXfers_eq, busXfers_env]
  simp only [State.busXfers, busXfer_out, List.append_assoc]
  rfl

/-- Settles O38: nothing without a send, the start of the packet, and the two arms that wait for the carrier. -/
theorem radioSendsAndWaitsForTheCarrier : Obligations.RadioSendsAndWaitsForTheCarrier := by
  intro s
  refine ⟨fun inactive => congrArg Host.Outcome.next (radioStep_of_inactive inactive), fun enabled inTime =>
    ⟨fun start => ?_, fun wait => congrArg Host.Outcome.next (radioStep_of_waitCarrierAssert enabled inTime wait),
      fun wait => congrArg Host.Outcome.next (radioStep_of_waitCarrierDeassert enabled inTime wait)⟩⟩
  obtain ⟨a, b, c, packet⟩ := rfTxStart_eq s
  exact ⟨a, b, c, congrArg Host.Outcome.next ((radioStep_of_txStart enabled inTime start).trans packet)⟩

/-! ### The acknowledgment (R306, R309) -/

/-- Where no byte has a pair of its own, an acknowledgment byte is split into its nibbles (R309). -/
theorem ackDecode_of_default {c : Config} (default : c.ackOverrides = []) (b : Byte) :
    (ackDecode c b).1.toNat = b.toNat / 16 ∧ (ackDecode c b).2.toNat = b.toNat % 16 := by
  have nibbles : ackDecode c b = ackNibbles b := by simp [ackDecode, default, lookupAck]
  rw [nibbles]
  simp only [ackNibbles, BitVec.truncate_eq_setWidth, BitVec.toNat_setWidth, BitVec.extractLsb'_toNat,
    Nat.shiftRight_eq_div_pow]
  omega

/-- The read of the receive buffer written out: the second transfer's answer is the acknowledgment byte. -/
theorem readAck_eq (s : State) : readAck s =
    let b := (s.busXfer s.cfg.rfCmdRxfifo).answer
    { s with rf := { s.rf with ackByte := b, fails := 0, state := .idle },
             ir := { s.ir with brokenThresh := (ackDecode s.cfg b).1, irDelay := (ackDecode s.cfg b).2 },
             out := { s.out with bus := s.out.bus ++ [(s.cfg.rfCmdRxfifo, s.answer), (s.cfg.rfDummy, b)],
                                 events := s.out.events ++ [.rfAck] },
             env := { s.env with answers := s.env.answers.drop 2, draws := s.env.draws + 2 } } := by
  have transfers : readAck s =
      (s.busXfers [s.cfg.rfCmdRxfifo, s.cfg.rfDummy]).acknowledge (s.busXfer s.cfg.rfCmdRxfifo).answer := rfl
  rw [transfers, busXfers_eq, busXfers_env]
  simp only [State.busXfers, busXfer_out, List.append_assoc]
  rfl

/-- Settles O39: the read of the receive buffer, and the nibbles of its byte. -/
theorem radioAcknowledged : Obligations.RadioAcknowledged := by
  intro s enabled wait inTime acked u b
  refine ⟨?_, fun a₀ a₁ rest answers => ?_, fun default => ackDecode_of_default default b⟩
  · refine congrArg Host.Outcome.next ?_
    rw [radioStep_of_waitAck enabled inTime wait, if_pos acked, readAck_eq]
    rfl
  · simp [b, u, State.answer, answers]

/-! ### The window's end (R306) -/

/-- With retries left, the window's end sends the transmit-start command alone again. -/
theorem windowElapsed_of_left (left : 2 ≤ s.rf.retry.toNat) : windowElapsed s =
    { s with rf := { s.rf with retry := s.rf.retry - 1, state := .waitCarrierAssert },
             out := { s.out with bus := s.out.bus ++ [(s.cfg.rfCmdStx, s.answer)] },
             env := { s.env with answers := s.env.answers.tail, draws := s.env.draws + 1 } } :=
  if_neg (show ¬ s.rf.retry - 1 = 0 by bv_omega)

/-- The last window's end ends the send. -/
theorem windowElapsed_of_last (last : s.rf.retry = 1) :
    windowElapsed s = exhausted { s with rf := { s.rf with retry := 0 } } := by
  simp [windowElapsed, last]

/-- Settles O40: inside the window and at its end. -/
theorem radioRetransmits : Obligations.RadioRetransmits := by
  intro s enabled wait inTime silent u
  have step := radioStep_of_waitAck enabled inTime wait
  rw [if_neg (by simp [silent])] at step
  refine ⟨fun early => congrArg Host.Outcome.next ?_, fun elapsed left => congrArg Host.Outcome.next ?_⟩
  · rw [step, if_neg (Nat.not_le_of_lt early)]
    rfl
  · rw [step, if_pos elapsed, windowElapsed_of_left (by simpa using left)]
    rfl

/-! ### The end of a send without an acknowledgment (R308) -/

/-- `s` after a failed send, before the ceiling is checked. -/
def sendFailed (s : State) : State :=
  { s with rf := { s.rf with fails := s.rf.fails + 1, state := .idle },
           out := { s.out with events := s.out.events ++ [.rfFail] } }

theorem sendFailed_fails (fits : s.rf.fails.toNat < 255) :
    (sendFailed s).rf.fails.toNat = s.rf.fails.toNat + 1 :=
  BitVec.toNat_add_of_lt (Nat.succ_lt_succ fits)

/-- A failure count that has not passed the ceiling passes it exactly from the ceiling itself. -/
theorem exhausted_eq (within : s.rf.fails.toNat ≤ s.cfg.failCeil.toNat) (fits : s.rf.fails.toNat < 255) :
    exhausted s =
      if s.rf.fails.toNat = s.cfg.failCeil.toNat then shutdownSeq (sendFailed s) else sendFailed s := by
  have exceeded : (sendFailed s).failuresExceeded = true ↔ s.rf.fails.toNat = s.cfg.failCeil.toNat := by
    rw [failuresExceeded_eq_true, sendFailed_fails fits, Nat.lt_succ_iff]
    exact ⟨within.antisymm, Eq.ge⟩
  exact if_congr exceeded rfl rfl

/-- The same as outcomes of commands, which is how R308 ends a step of the send. -/
theorem next_exhausted (within : s.rf.fails.toNat ≤ s.cfg.failCeil.toNat) (fits : s.rf.fails.toNat < 255) :
    .next (exhausted s) =
      if s.rf.fails.toNat = s.cfg.failCeil.toNat then exec .shutdown (sendFailed s) else .next (sendFailed s) := by
  rw [exhausted_eq within fits, apply_ite Host.Outcome.next]
  rfl

/-- Settles O41: the overall timeout, and the last window's end. -/
theorem radioExhausted : Obligations.RadioExhausted := by
  intro s enabled within ceil
  have fits : s.rf.fails.toNat < 255 := Nat.lt_succ_of_le (within.trans ceil)
  refine ⟨fun timed late busy => ?_, fun inTime wait silent elapsed last => ?_⟩
  · have step := radioStep_of_timedOut enabled busy ((sendTimedOut_eq_true s).mpr ⟨timed, late⟩)
    exact (congrArg Host.Outcome.next step).trans (next_exhausted within fits)
  · have step : radioStep s = exhausted { s.sampled .rfAck with rf := { s.rf with retry := 0 } } := by
      rw [radioStep_of_waitAck enabled inTime wait, if_neg (by simp [silent]), if_pos elapsed,
        windowElapsed_of_last (s := s.sampled .rfAck) last]
      rfl
    exact (congrArg Host.Outcome.next step).trans (next_exhausted within fits)

end Sys2Proof.Machine
end

section
/-! PROOFS. The transmission count (R311): one round of the carrier and the receive window, then the rounds of a request
by induction over the retries. -/

namespace Sys2Proof.Machine

open Sys2Proof.Laws

variable {s t : State} {x : RfState} {c n : Nat} {rest : List (Line × Bool)}

/-! ### A point of a round -/

/-- The radio is present and no overall timeout ends its send; the tick is enabled and its counter holds the receive
window. -/
structure CountsWindows (s : State) : Prop where
  enabled : s.cfg.rfEnable = true
  untimed : s.cfg.rfTimeout50ms = 0
  tick    : s.tickEn = true
  fits    : s.cfg.rfAckWindow < 2 ^ s.cfg.cntWidth

/-- `t` follows on `s` in the state `x` of the send, with `c` in CNT_RFWIN and the levels `rest` waiting; of the radio
only the state has moved, and nothing has been output. -/
structure AtRound (s : State) (x : RfState) (c : Nat) (rest : List (Line × Bool)) (t : State) : Prop where
  rf     : t.rf = { s.rf with state := x }
  window : t.cnt.rfWin = c
  levels : t.env.levels = rest
  cfg    : t.cfg = s.cfg
  tick   : t.tickEn = s.tickEn
  out    : t.out = s.out

theorem AtRound.start (state : s.rf.state = x) : AtRound s x s.cnt.rfWin s.env.levels s :=
  ⟨state ▸ rfl, rfl, rfl, rfl, rfl, rfl⟩

theorem AtRound.countsWindows (h : AtRound s x c rest t) (counts : CountsWindows s) : CountsWindows t := by
  obtain ⟨enabled, untimed, tick, fits⟩ := counts
  exact ⟨h.cfg ▸ enabled, h.cfg ▸ untimed, h.tick.trans tick, h.cfg ▸ fits⟩

theorem AtRound.state_eq (h : AtRound s x c rest t) : t.rf.state = x := by
  rw [h.rf]

theorem AtRound.carrierHigh (h : AtRound s .waitCarrierAssert c ((.rfCarrier, true) :: rest) t)
    (counts : CountsWindows s) : AtRound s .waitCarrierDeassert c rest (radioStep t) := by
  obtain ⟨enabled, untimed, -, -⟩ := h.countsWindows counts
  rw [radioStep_of_waitCarrierAssert enabled (.inl untimed) h.state_eq, if_pos (level_of_cons h.levels)]
  exact { h with rf := by rw [setRfState_rf, sampled_rf, h.rf], levels := sampled_levels_of_cons h.levels }

/-- The carrier's deassert starts the receive window (R305). -/
theorem AtRound.carrierLow (h : AtRound s .waitCarrierDeassert c ((.rfCarrier, false) :: rest) t)
    (counts : CountsWindows s) : AtRound s .waitAck 0 rest (radioStep t) := by
  obtain ⟨enabled, untimed, -, -⟩ := h.countsWindows counts
  rw [radioStep_of_waitCarrierDeassert enabled (.inl untimed) h.state_eq, level_of_cons h.levels,
    if_neg Bool.false_ne_true]
  exact { h with
    rf := by rw [setRfState_rf, clearCounter_rf, sampled_rf, h.rf]
    window := rfl
    levels := sampled_levels_of_cons h.levels }

theorem AtRound.ticked (h : AtRound s x c rest t) (fits : c + n < 2 ^ s.cfg.cntWidth) :
    AtRound s x (c + n) rest (ticked t n) := by
  have counted : (Laws.ticked t n).cnt.rfWin = c + n := by
    rw [ticked_rfWin, h.window]
    rwa [h.cfg, h.window]
  rw [ticked_eq]
  exact { h with window := counted }

/-- Without an acknowledgment the receive window ends (R306). -/
theorem AtRound.windowOver (h : AtRound s .waitAck c ((.rfAck, false) :: rest) t) (counts : CountsWindows s)
    (ended : s.cfg.rfAckWindow ≤ c) :
    radioStep t = windowElapsed (t.sampled .rfAck) ∧ AtRound s .waitAck c rest (t.sampled .rfAck) := by
  obtain ⟨enabled, untimed, -, -⟩ := h.countsWindows counts
  rw [radioStep_of_waitAck enabled (.inl untimed) h.state_eq, level_of_cons h.levels, if_neg Bool.false_ne_true,
    if_pos (by rwa [h.cfg, h.window])]
  exact ⟨rfl, { h with levels := sampled_levels_of_cons h.levels }⟩

/-! ### One round -/

/-- The commands of one round in `RadioTransmissionCount`. -/
def roundCommands (c : Config) : List Instr :=
  [Instr.rfStep, .rfStep] ++ List.replicate c.rfAckWindow Instr.tick ++ [.rfStep]

/-- The levels of one round: the carrier asserts and deasserts, and no acknowledgment comes. -/
def roundLevels : List (Line × Bool) := [(.rfCarrier, true), (.rfCarrier, false), (.rfAck, false)]

/-- `s` awaits the carrier with `n` transmissions left, none of them to be acknowledged, and one failure more does not
pass the ceiling. -/
structure RoundsLeft (s : State) (n : Nat) (rest : List (Line × Bool)) : Prop where
  counts : CountsWindows s
  wait   : s.rf.state = .waitCarrierAssert
  retry  : s.rf.retry.toNat = n
  below  : s.rf.fails.toNat < s.cfg.failCeil.toNat
  levels : s.env.levels = (List.replicate n roundLevels).flatten ++ rest

/-- A round ends with the elapsed window of its transmission. -/
theorem RoundsLeft.round (left : RoundsLeft s (n + 1) rest) :
    ∃ t, execList (roundCommands s.cfg) s = .next (windowElapsed t) ∧
      AtRound s .waitAck s.cfg.rfAckWindow ((List.replicate n roundLevels).flatten ++ rest) t := by
  obtain ⟨counts, wait, -, -, levels⟩ := left
  rw [List.replicate_succ, List.flatten_cons, List.append_assoc] at levels
  have asserted := (levels ▸ AtRound.start wait).carrierHigh counts
  have deasserted := asserted.carrierLow counts
  have elapsed := deasserted.ticked (n := s.cfg.rfAckWindow) (by simpa using counts.fits)
  rw [Nat.zero_add] at elapsed
  obtain ⟨step, ended⟩ := elapsed.windowOver counts le_rfl
  refine ⟨_, ?_, ended⟩
  rw [← step]
  have carrier : execList [.rfStep, .rfStep] s = .next (radioStep (radioStep s)) := rfl
  have window := execList_ticks _ (deasserted.countsWindows counts).tick s.cfg.rfAckWindow
  exact execList_trans (execList_trans carrier window) (execList_single ..)

/-! ### The rounds of a request -/

/-- `t` follows on `s` when the request has failed after `n` further transmissions. -/
structure Unanswered (s : State) (n : Nat) (rest : List (Line × Bool)) (t : State) : Prop where
  sent   : t.out.bus.map Prod.fst = s.out.bus.map Prod.fst ++ List.replicate n s.cfg.rfCmdStx
  fails  : t.rf.fails.toNat = s.rf.fails.toNat + 1
  idle   : t.rf.state = .idle
  retry  : t.rf.retry = 0
  events : t.out.events = s.out.events ++ [.rfFail]
  levels : t.env.levels = rest

/-- Below the ceiling a failed send does not shut the machine down. -/
theorem exhausted_of_lt (below : s.rf.fails.toNat < s.cfg.failCeil.toNat) : exhausted s = sendFailed s := by
  rw [exhausted_eq below.le (by omega), if_neg below.ne]

/-- The last window's end fails the send. -/
theorem AtRound.unanswered (h : AtRound s .waitAck c rest t) (last : s.rf.retry.toNat = 1)
    (below : s.rf.fails.toNat < s.cfg.failCeil.toNat) : Unanswered s 0 rest (windowElapsed t) := by
  rw [windowElapsed_of_last (by rw [h.rf]; exact BitVec.eq_of_toNat_eq last),
    exhausted_of_lt (by simpa only [h.rf, h.cfg] using below)]
  refine ⟨by simp [sendFailed, h.out], ?_, rfl, rfl, by simp [sendFailed, h.out], h.levels⟩
  rw [sendFailed_fails] <;> simp only [h.rf]
  omega

/-- An earlier window's end leads to the next transmission. -/
theorem AtRound.roundsLeft (h : AtRound s .waitAck c ((List.replicate (n + 1) roundLevels).flatten ++ rest) t)
    (left : RoundsLeft s (n + 2) rest) : RoundsLeft (windowElapsed t) (n + 1) rest := by
  have retry := left.retry
  rw [windowElapsed_of_left (by simp only [h.rf]; omega)]
  refine ⟨?_, rfl, ?_, ?_, h.levels⟩
  · exact { h.countsWindows left.counts with }
  · simp only [h.rf]
    bv_omega
  · simpa only [h.rf, h.cfg] using left.below

/-- The next transmission is one more than those that follow it. -/
theorem AtRound.unanswered_succ {u : State} {after : List (Line × Bool)} (h : AtRound s .waitAck c rest t)
    (left : 2 ≤ s.rf.retry.toNat) (later : Unanswered (windowElapsed t) n after u) :
    Unanswered s (n + 1) after u := by
  rw [windowElapsed_of_left (by rwa [h.rf])] at later
  obtain ⟨sent, fails, idle, retry, events, levels⟩ := later
  refine ⟨?_, ?_, idle, retry, ?_, levels⟩
  · simp [sent, h.out, h.cfg, List.replicate_succ]
  · simp [fails, h.rf]
  · simp [events, h.out]

theorem RoundsLeft.unanswered (left : RoundsLeft s (n + 1) rest) :
    ∃ t, execList (List.replicate (n + 1) (roundCommands s.cfg)).flatten s = .next t ∧ Unanswered s n rest t := by
  induction n generalizing s with
  | zero =>
    obtain ⟨u, round, ended⟩ := left.round
    exact ⟨_, by simpa using round, ended.unanswered left.retry left.below⟩
  | succ n ih =>
    obtain ⟨u, round, ended⟩ := left.round
    obtain ⟨t, rounds, later⟩ := ih (ended.roundsLeft left)
    refine ⟨t, ?_, ended.unanswered_succ (left.retry ▸ Nat.le_add_left 2 n) later⟩
    have sameCfg : (windowElapsed u).cfg = s.cfg := by simp [ended.cfg]
    rw [List.replicate_succ, List.flatten_cons]
    rw [sameCfg] at rounds
    exact execList_trans round rounds

/-! ### The request -/

/-- `t` follows on `s` with the packet of an accepted request on the bus. -/
structure PacketSent (s : State) (btn sig : Bool) (t : State) : Prop where
  cfg    : t.cfg = s.cfg
  sent   : t.out.bus.map Prod.fst = s.out.bus.map Prod.fst ++
    [s.cfg.rfCmdTxfifo, BitVec.ofNat 8 (btn.toNat * 128 + sig.toNat * 64 + s.rf.seq.toNat), s.cfg.rfCmdStx]
  fails  : t.rf.fails = s.rf.fails
  events : t.out.events = s.out.events

/-- The request and the step that sends its packet leave all of the request's transmissions to await the carrier (R302,
R304). -/
theorem execList_request (counts : CountsWindows s) (accepted : s.sendAccepted = true)
    (below : s.rf.fails.toNat < s.cfg.failCeil.toNat)
    (levels : s.env.levels = (List.replicate s.cfg.retryMax.toNat roundLevels).flatten ++ rest) (btn sig : Bool) :
    ∃ t, execList [.rfSend btn sig, .rfStep] s = .next t ∧ PacketSent s btn sig t ∧
      RoundsLeft t s.cfg.retryMax.toNat rest := by
  obtain ⟨enabled, untimed, tick, fits⟩ := counts
  have request : exec (.rfSend btn sig) s = .next ((s.startSend btn sig).setRes 1) := by
    simp [exec, execRfSend, sendPacket, bitResult, accepted]
  have start : radioStep ((s.startSend btn sig).setRes 1) = rfTxStart ((s.startSend btn sig).setRes 1) :=
    radioStep_of_txStart enabled (.inl untimed) rfl
  obtain ⟨a, b, c, packet⟩ := rfTxStart_eq ((s.startSend btn sig).setRes 1)
  refine ⟨_, (execList_cons request).trans ((execList_single ..).trans
    (congrArg Host.Outcome.next (start.trans packet))), ⟨rfl, ?_, rfl, rfl⟩,
    ⟨⟨enabled, untimed, tick, fits⟩, rfl, rfl, below, levels⟩⟩
  simp [packetByte_eq_ofNat]

/-- Settles O42: the accepted request, its packet, and a round for each of its transmissions. -/
theorem radioTransmissionCount : Obligations.RadioTransmissionCount := by
  intro s btn sig rest round levels enabled configured run idle tick untimed fits positive below waiting
  have accepted : s.sendAccepted = true := (sendAccepted_eq_true s).mpr ⟨enabled, configured, run, idle⟩
  obtain ⟨u, request, ⟨cfg, packet, sameFails, sameEvents⟩, left⟩ :=
    execList_request ⟨enabled, untimed, tick, fits⟩ accepted below waiting btn sig
  obtain ⟨n, transmissions⟩ := Nat.exists_eq_add_of_le' positive
  rw [transmissions] at left ⊢
  obtain ⟨t, rounds, sent, fails, ended, retry, events, used⟩ := left.unanswered
  rw [cfg] at rounds sent
  rw [packet] at sent
  exact ⟨t, execList_trans request rounds, sent, sameFails ▸ fails, ended, retry, sameEvents ▸ events, used⟩

end Sys2Proof.Machine
end

section
/-! PROOFS. The shutdown sequence (R365, R367), what is left after it (R366), and BOOT and NOP (R370, R371). -/

namespace Sys2Proof.Machine

open Sys2Proof.Laws

variable {s : State}

/-! ### Shutdown (R365, R367) -/

theorem shutdownSeq_of_live (live : s.live) : shutdownSeq s = shutdownBody s :=
  (shutdownSeq_cases s).elim And.right fun down => absurd down.left live.not_shutDown

theorem shutdownSeq_of_shutDown (down : s.shutDown) : shutdownSeq s = s :=
  (shutdownSeq_cases s).elim (fun live => absurd down live.left.not_shutDown) And.right

/-- Settles O51: the writes around the blanking of the display, whose own writes are those of R209. -/
theorem shutdownSequence : Obligations.ShutdownSequence := by
  refine fun s => ⟨fun live wide => congrArg Host.Outcome.next ?_,
    fun down => congrArg Host.Outcome.next (shutdownSeq_of_shutDown down)⟩
  have blank := turnOff_eq ({ s with tickEn := false }.pinWrite .irOutA false) wide
  simp only [shutdownSeq_of_live live, shutdownBody, blank]
  rfl

/-! ### After shutdown (R366) -/

/-- Settles O53: each agent's turn, the TIMER's with the tick off and the HOST's at a closed port. -/
theorem onlyTheReleaseWaitAfterShutdown : Obligations.OnlyTheReleaseWaitAfterShutdown := by
  intro s t quiet down h
  have turnOnly {e : Env} (same : step s = .next { s with env := e }) : t = { s with env := t.env } := by
    cases h.symm.trans same
    rfl
  obtain ⟨timer, -, -, pressed, released, halted, host⟩ := agentSteps s
  cases agent : s.nextAgent with
  | timer =>
    have notRun : s.sys ≠ .run := fun run => State.live.not_shutDown (.inr run) down
    have disabled : s.tickEn = false := Bool.eq_false_iff.mpr (mt quiet.tick.mp notRun)
    exact .inl (turnOnly ((timer agent).trans (exec_tick_of_disabled disabled)))
  | host => exact .inl (turnOnly (host agent down))
  | foreground =>
    obtain wait | halt := down
    · cases level : s.turnTaken.level .button with
      | true => exact .inl (turnOnly (pressed agent wait level))
      | false =>
        cases h.symm.trans (released agent wait level)
        exact .inr ⟨wait, rfl, rfl⟩
    · exact .inl (turnOnly (halted agent halt))

/-! ### BOOT and NOP (R370, R371) -/

theorem bootStep_of_configures (boot : s.sys = .boot) (enabled : s.cfg.rfEnable = true)
    (fresh : s.rf.configured = false) : bootStep s = { configureRadio s with tickEn := true, sys := .run } := by
  simp [bootStep, boot, enabled, fresh]

theorem bootStep_of_ready (boot : s.sys = .boot) (ready : s.cfg.rfEnable = false ∨ s.rf.configured = true) :
    bootStep s = { s with tickEn := true, sys := .run } := by
  obtain absent | configured := ready
  · simp [bootStep, boot, absent]
  · simp [bootStep, boot, configured]

/-- Settles O52: the two ways of booting, the fault outside BOOT, and NOP as it is defined. -/
theorem bootAndNop : Obligations.BootAndNop := fun _ =>
  ⟨fun boot enabled fresh => ⟨_, exec_rfConfig enabled fresh, rfl,
      congrArg Host.Outcome.next (bootStep_of_configures boot enabled fresh)⟩,
    fun boot ready => congrArg Host.Outcome.next (bootStep_of_ready boot ready),
    fun running => congrArg Host.Outcome.next (if_neg running), rfl⟩

end Sys2Proof.Machine
end

section
/-! PROOFS. SCHED.STEP and the phases it runs (R350 to R356). -/

namespace Sys2Proof.Machine

open Sys2Proof.Laws

variable {s : State}

theorem not_reached_of_lt {v thr : Nat} (early : v < thr) : ¬ reached v thr = true := by
  simpa using early

/-! ### SCHED.STEP (R350) -/

/-- Settles O46: the component command at ITER_POS is its component step. -/
theorem schedulerStepIsTheComponentStep : Obligations.SchedulerStep := fun s =>
  ⟨fun run => ⟨_, exec_componentCommand s.iterPos s, s.iterPos + 1, Fin.val_add ..,
      congrArg Host.Outcome.next (if_pos run)⟩,
    fun stopped => congrArg Host.Outcome.next (if_neg stopped)⟩

/-! ### PH.DISP and PH.1MS (R352, R353) -/

/-- Settles O48: each phase below its threshold and at it. -/
theorem displayAnd1msPhases : Obligations.DisplayAnd1msPhases := fun _ =>
  ⟨fun early => congrArg Host.Outcome.next (if_neg (not_reached_of_lt early)),
    fun due => ⟨_, rfl, congrArg Host.Outcome.next (if_pos ((reached_eq_true ..).mpr due))⟩,
    fun early => congrArg Host.Outcome.next (if_neg (not_reached_of_lt early)),
    fun due => congrArg Host.Outcome.next (if_pos ((reached_eq_true ..).mpr due))⟩

/-! ### PH.10MS (R354) -/

/-- The pressed sample as an outcome: one event a press, a saturating count, and SHUTDOWN at its threshold. -/
theorem next_buttonHeld (s : State) : .next (buttonHeld s) =
    let t := { s with btnHold := satInc s.btnHold 0xFFFF,
                      out := { s.out with events := s.out.events ++ if s.btnHold = 0 then [.button] else [] } }
    if s.cfg.btnHoldThresh.toNat ≤ (satInc s.btnHold 0xFFFF).toNat then exec .shutdown t else .next t := by
  by_cases first : s.btnHold = 0#16 <;>
    simp [buttonHeld, first, holdReached_eq_true, apply_ite Host.Outcome.next, exec, execShutdown, State.emit]

theorem phase10ms_of_due (due : s.cfg.t10ms ≤ s.cnt.ms10) : phase10ms s =
    let t := ((s.clearCounter 3).emit .ms10).sampled .button
    if s.level .button = true then buttonHeld t else { t with btnHold := 0 } :=
  if_pos ((reached_eq_true ..).mpr due)

/-- Settles O49: the released sample ends the hold, and the pressed one is counted after EV_10MS. -/
theorem tenMillisecondPhase : Obligations.TenMillisecondPhase := by
  intro s e c
  refine ⟨fun early => congrArg Host.Outcome.next (if_neg (not_reached_of_lt early)), fun due released => ?_,
    fun due pressed => ⟨satInc s.btnHold 0xFFFF, satInc_toNat .., ?_⟩⟩
  · exact congrArg Host.Outcome.next ((phase10ms_of_due due).trans (if_neg (by simp [released])))
  · have events : s.out.events ++ (if s.btnHold = 0 then [.ms10, .button] else [.ms10]) =
        s.out.events ++ [.ms10] ++ if s.btnHold = 0 then [.button] else [] := by
      split <;> simp
    have held : phase10ms s = buttonHeld (((s.clearCounter 3).emit .ms10).sampled .button) :=
      (phase10ms_of_due due).trans (if_pos pressed)
    rw [events]
    exact (congrArg Host.Outcome.next held).trans (next_buttonHeld _)

/-! ### PH.50MS (R356, R307, R310) -/

/-- The cooldown counts down to 0 and stays there. -/
theorem cooldownPhase_eq (s : State) : ∃ cool : Byte, cool.toNat = s.ir.cooldown.toNat - 1 ∧
    cooldownPhase s = { s with ir := { s.ir with cooldown := cool } } := by
  by_cases ended : s.ir.cooldown = 0
  · exact ⟨s.ir.cooldown, by simp [ended], if_pos ended⟩
  · exact ⟨s.ir.cooldown - 1, by bv_omega, if_neg ended⟩

/-- Only a send under way ages (R307). -/
theorem rfTimeoutPhase_of_enabled (enabled : s.cfg.rfEnable = true) : rfTimeoutPhase s =
    { s with rf := { s.rf with timeout := if s.rf.state = .idle then s.rf.timeout else satInc s.rf.timeout 255 } } := by
  unfold rfTimeoutPhase
  by_cases idle : s.rf.state = .idle
  · rw [if_neg (by simp [idle]), if_pos idle]
  · rw [if_pos ⟨enabled, idle⟩, if_neg idle]

/-- A heartbeat that is due is a request like any other, accepted under R302's conditions. -/
theorem heartbeatPhase_of_enabled (enabled : s.cfg.rfEnable = true) : heartbeatPhase s =
    let idle := satInc s.rf.idleLink 0xFFFF
    let t := { s with rf := { s.rf with idleLink := idle } }
    if s.cfg.heartbeat50ms.toNat ≤ idle.toNat ∧ s.rf.state = .idle ∧ s.rf.configured = true ∧ s.sys = .run then
      t.startSend false false
    else t := by
  simp only [heartbeatPhase, enabled, sendPacket, if_true, ← ite_and, heartbeatDue_eq_true, sendAccepted_eq_true]
  refine if_congr ?_ rfl rfl
  tauto

/-- The radio's share of the phase: the overall timeout of a send under way (R307), then the heartbeat (R310). -/
theorem radioPhases_eq (s : State) : ∃ elapsed : Byte, ∃ idle : Half,
    elapsed.toNat = (if s.rf.state = .idle then s.rf.timeout.toNat else min (s.rf.timeout.toNat + 1) 255) ∧
    idle.toNat = min (s.rf.idleLink.toNat + 1) 0xFFFF ∧
    heartbeatPhase (rfTimeoutPhase s) =
      if s.cfg.rfEnable = false then s
      else if s.cfg.heartbeat50ms.toNat ≤ idle.toNat ∧ s.rf.state = .idle ∧ s.rf.configured = true ∧
          s.sys = .run then
        s.startSend false false
      else { s with rf := { s.rf with timeout := elapsed, idleLink := idle } } := by
  refine ⟨if s.rf.state = .idle then s.rf.timeout else satInc s.rf.timeout 255, satInc s.rf.idleLink 0xFFFF, ?_,
    satInc_toNat .., ?_⟩
  · rw [apply_ite BitVec.toNat, satInc_toNat]
    rfl
  · cases enabled : s.cfg.rfEnable with
    | false => simp [rfTimeoutPhase, heartbeatPhase, enabled]
    | true =>
      rw [heartbeatPhase_of_enabled (by simpa using enabled), rfTimeoutPhase_of_enabled enabled]
      rfl

theorem phase50ms_of_due (due : s.cfg.t50ms ≤ s.cnt.ms50) : phase50ms s =
    let t := (s.clearCounter 4).sampled .vCutoff
    if s.level .vCutoff = true then shutdownSeq t
    else heartbeatPhase (rfTimeoutPhase (cooldownPhase (recomputeFrame t))) :=
  if_pos ((reached_eq_true ..).mpr due)

/-- Settles O50: the cutoff alone, or the four parts of the phase in their order, each from what the last one left. -/
theorem fiftyMillisecondPhase : Obligations.FiftyMillisecondPhase := by
  intro s u
  refine ⟨fun early => congrArg Host.Outcome.next (if_neg (not_reached_of_lt early)),
    fun due cutoff => congrArg Host.Outcome.next ((phase50ms_of_due due).trans (if_pos cutoff)),
    fun due supplied => ?_⟩
  have phases : phase50ms s = heartbeatPhase (rfTimeoutPhase (cooldownPhase (recomputeFrame u))) :=
    (phase50ms_of_due due).trans (if_neg (by simp [supplied]))
  obtain ⟨cool, decremented, cooled⟩ := cooldownPhase_eq (recomputeFrame u)
  obtain ⟨elapsed, idle, counted, idled, radio⟩ := radioPhases_eq (cooldownPhase (recomputeFrame u))
  refine ⟨recomputeFrame u, cool, elapsed, idle, rfl, ?_, ?_, ?_, congrArg Host.Outcome.next (phases.trans ?_)⟩
  · simpa [u] using decremented
  · simpa [u] using counted
  · simpa [u] using idled
  · rw [radio, cooled]
    simp [u, State.startSend, packetByte_eq_ofNat]

end Sys2Proof.Machine
end

section
/-! PROOFS. The reset values (R450). -/

namespace Sys2Proof.Machine

/-- The six bound counters of R33 start at 0, however many spare ones follow them. -/
theorem resetWith_boundCounter (c : Config) (spares shift latch : Nat) {i : Nat} (bound : i < 6) :
    (State.resetWith c spares shift latch).cnt.get? i = some 0 := by
  interval_cases i <;> rfl

/-- Settles O57: BITIDX is past the end because the defaults meet R8, the shift register is only as wide as `Sized`
says, and every other register is written out in the reset state. -/
theorem resetValues : Obligations.ResetValues := by
  unfold Obligations.ResetValues
  intro s
  have sized : s.Sized := resetWith_sized _ _ _ _ default_wf (Nat.zero_le _)
  have pastEnd : s.disp.bitIdx.toNat = s.cfg.frameBits + 1 := scanComplete_toNat default_wf
  exact ⟨fun _ => resetWith_boundCounter _ _ _ _, rfl, rfl, rfl, rfl, rfl, pastEnd, rfl, rfl, rfl, sized.shift,
    sized.latch, rfl, rfl, rfl, rfl, rfl, rfl, rfl⟩

end Sys2Proof.Machine
end
